-- ==== Sys2Proof/Word.lean ====
section
/-! DEFINITION. The word types of the engine: a byte of the sensor's register space (R60, R68). -/

namespace Sys2Proof

/-- One byte of the sensor's register space; also the width of a register offset (R60) and of COMPLETION (R10). -/
abbrev Byte := BitVec 8

/-- The command word written to CMD (R90). -/
abbrev CmdWord := BitVec 32

end Sys2Proof
end

