-- ==== Sys2Proof/Syntax.lean ====
section
/-! DEFINITION. The commands of the engine, one constructor per row of spec/opcode_table.json (R3, R92).
CMD carries no immediate and the table gives the rows no field, so no constructor has an argument; the one
operand, ARG, is a register of State (R91). -/

namespace Sys2Proof

/-- The seven commands (R92). -/
inductive Instr where
  /-- NOP, R135. -/
  | nop
  /-- INIT, R150. -/
  | init
  /-- SET_INTERVAL, R190. -/
  | setInterval
  /-- REFRESH, R192. -/
  | refresh
  /-- READ_TEMP, R240. -/
  | readTemp
  /-- READ_PRES, R244. -/
  | readPres
  /-- READ_HUM, R250. -/
  | readHum
  deriving DecidableEq, Repr

end Sys2Proof
end

