-- ==== Sys2Proof/WellFormed.lean ====
section
/-! DEFINITION. Well-formed command words and instructions (R90, R93). -/

namespace Sys2Proof

/-- The reserved field RSV, bits 31:8, is 0 (R90). -/
def reservedFieldZero (w : CmdWord) : Bool := w.extractLsb' 8 24 == 0#24

/-- The opcode field OP, bits 7:0, names a row of the opcode map (R92, R93). -/
def opcodeAssigned (w : CmdWord) : Bool := (w.extractLsb' 0 8).toNat ≤ 0x06

/-- A command word is well formed when both checks of R93 pass. -/
def wordWellFormed (w : CmdWord) : Bool := reservedFieldZero w && opcodeAssigned w

/-- Every instruction is well formed: the format has no operand field whose value could be out of range (R90, R91). -/
def Instr.wellFormed : Instr → Bool
  | .nop => true
  | .init => true
  | .setInterval => true
  | .refresh => true
  | .readTemp => true
  | .readPres => true
  | .readHum => true

end Sys2Proof
end

