-- ==== Sys2Proof/Decode.lean ====
section
/-! DEFINITION. The command decoder (R90, R92, R93, R133), total on every 32-bit word, and the encoder. -/

namespace Sys2Proof

/-- What the decoder reads from a command word: an instruction, or the reason R93 gives for an illegal word. -/
inductive Decoded where
  | instr (i : Instr)
  /-- RSV ≠ 0, whatever OP is. -/
  | reservedFieldSet
  /-- RSV = 0 and OP in 0x07..0xFF. -/
  | reservedOpcode
  deriving DecidableEq, Repr

/-- `op <- CMD[7:0]` (R133). -/
def opField (w : CmdWord) : Byte := w.extractLsb' 0 8

/-- `rsv <- CMD[31:8]` (R133). -/
def rsvField (w : CmdWord) : BitVec 24 := w.extractLsb' 8 24

/-- The opcode map (R92). -/
def decodeOp (op : Nat) : Decoded :=
  match op with
  | 0x00 => .instr .nop
  | 0x01 => .instr .init
  | 0x02 => .instr .setInterval
  | 0x03 => .instr .refresh
  | 0x04 => .instr .readTemp
  | 0x05 => .instr .readPres
  | 0x06 => .instr .readHum
  | _ => .reservedOpcode

/-- The first step of every command (R133). -/
def decode (w : CmdWord) : Decoded :=
  if rsvField w = 0#24 then decodeOp (opField w).toNat else .reservedFieldSet

/-- The instruction of a decoded word, where there is one. -/
def Decoded.instr? : Decoded → Option Instr
  | .instr i => some i
  | .reservedFieldSet => none
  | .reservedOpcode => none

/-- The OP column of the opcode map (R92). -/
def opcode : Instr → Byte
  | .nop => 0x00
  | .init => 0x01
  | .setInterval => 0x02
  | .refresh => 0x03
  | .readTemp => 0x04
  | .readPres => 0x05
  | .readHum => 0x06

/-- The command word of an instruction: RSV = 0 above OP (R90, R92). -/
def encode (i : Instr) : CmdWord := 0#24 ++ opcode i

/-- The CMD word of a table word: its low 32 bits, the bits above `nbits` being 0. A word longer than CMD goes on
into ARG (`argOfTableWord`), because a command is CMD together with ARG (R90). -/
def cmdOfTableWord (nbits w : Nat) : CmdWord := BitVec.ofNat 32 (w % 2 ^ nbits)

/-- The ARG operand of a table word: bits 95:32, all 0 for the 32-bit rows of the table. -/
def argOfTableWord (nbits w : Nat) : BitVec 64 := BitVec.ofNat 64 (w % 2 ^ nbits / 2 ^ 32)

/-- The instruction the decoder reads from a table word. CMD is one port word, so no byte order enters. -/
def decodeTableWord (nbits w : Nat) : Option Instr := (decode (cmdOfTableWord nbits w)).instr?

end Sys2Proof
end

