-- ==== Sys2Proof/Config.lean ====
section
/-! DEFINITION. The instantiation parameters of R9. None is writable at run time, so none is in State (R46). -/

namespace Sys2Proof

/-- The parameters R9 leaves to the instantiation (R9, R46; D12, D13, D14).
`settleDelay` carries the default of R9 for whoever builds a value; the machine's own value stays open. -/
structure Params where
  /-- DEV_ADDR, the 7-bit bus address of the sensor. -/
  devAddr : BitVec 7
  /-- CTRL_MEAS_VALUE, the byte a refresh writes to offset 0xF4. -/
  ctrlMeasValue : Byte
  /-- SETTLE_DELAY, in ms. -/
  settleDelay : Nat := 100
  deriving DecidableEq, Repr, Inhabited

/-- The parameters of the machine at hand: any value of `Params`, since R9 leaves DEV_ADDR and
CTRL_MEAS_VALUE open and makes SETTLE_DELAY a model argument (U11). It has no body, so every claim holds
whatever it is. DESIGN CHOICE, safe: assumption 5. -/
opaque Config.params : Params

/-- INTERVAL_RESET, the reset value of INTERVAL in ms (R9, R33). -/
def Config.intervalReset : BitVec 64 := 200

/-- TIME_UNIT: one unit of ARG, when ARG is a time, is this many ms (R9). -/
def Config.timeUnitMs : Nat := 1

end Sys2Proof
end

