-- ==== Sys2Proof/Machine/State.lean ====
section
/-! DEFINITION. The engine's architectural state (10_state.md), the agents around it as plain data (R8), the reasons
a step can stop, and the state after reset (R320). Nested by the four groups of R20. The engine has no memory (R61):
assumption 10. -/

namespace Sys2Proof.Machine

/-- STATE, the construction state (R25). The encoding 3 is never written, so it has no constructor. DEDUCED:
assumption 8. -/
inductive ConState where
  | uninit
  | ready
  | failed
  deriving DecidableEq, Repr

/-- VARIANT, the device variant (R2, R26). -/
inductive Variant where
  | none
  | tp
  | tph
  deriving DecidableEq, Repr

/-- The completion codes (R95); no other code is ever written to COMPLETION. -/
inductive Completion where
  | ok
  | undefinedResult
  | communicationError
  | unrecognizedDevice
  | unsupportedOperation
  | notReady
  | alreadyInitialized
  | illegalCommand
  deriving DecidableEq, Repr

/-- T1..T3 and P1..P9 (R35). T1 and P1 are read unsigned, the others signed. -/
structure TpCoeffs where
  t1 : BitVec 16
  t2 : BitVec 16
  t3 : BitVec 16
  p1 : BitVec 16
  p2 : BitVec 16
  p3 : BitVec 16
  p4 : BitVec 16
  p5 : BitVec 16
  p6 : BitVec 16
  p7 : BitVec 16
  p8 : BitVec 16
  p9 : BitVec 16
  deriving DecidableEq, Repr

/-- H1..H6, all read signed (R36). -/
structure HumCoeffs where
  h1 : BitVec 8
  h2 : BitVec 16
  h3 : BitVec 8
  h4 : BitVec 12
  h5 : BitVec 12
  h6 : BitVec 8
  deriving DecidableEq, Repr

/-- The command that goes on after ensure_fresh (R193): REFRESH or one of the READ_* commands. -/
inductive Reader where
  | refresh
  | temp
  | pres
  | hum
  deriving DecidableEq, Repr

/-- An issued bus request that BUS has not answered yet (R301), with what the command has read so far. The waiting
engine's own phase; the host cannot see it (R24). -/
inductive Pending where
  /-- INIT waits for `MemRead(0xD0, 1)`. -/
  | identity
  /-- INIT waits for `MemRead(0x88, 24)`. -/
  | calibration (id : Byte)
  /-- INIT waits for `MemRead(0xA1, 1)`. -/
  | humidityFirst (id : Byte) (c : List Byte)
  /-- INIT waits for `MemRead(0xE1, 7)`. -/
  | humidityRest (id : Byte) (c : List Byte) (a : Byte)
  /-- A refresh waits for `MemWrite(0xF4, [CTRL_MEAS_VALUE])`. -/
  | control (r : Reader)
  /-- A refresh waits for `MemRead(0xF7, n)`. -/
  | burst (r : Reader)
  deriving DecidableEq, Repr

/-- The sequencer and port state (R20, R23), and the phase of a waiting engine. -/
structure Port where
  state      : ConState
  busy       : Bool
  variant    : Variant
  chipId     : Byte
  cmd        : CmdWord
  arg        : BitVec 64
  completion : Completion
  result     : BitVec 128
  /-- CMD and ARG hold a value: the host has written them since reset (R21, R320). Only the claims look at it. DESIGN
  CHOICE: assumption 16. -/
  issued     : Bool
  /-- The unanswered bus request of a waiting engine; none while no request is open. -/
  pending    : Option Pending
  deriving DecidableEq, Repr

/-- The Calibration Store (R20, R34 to R36). -/
structure CalibStore where
  calibValid : Bool
  tp         : TpCoeffs
  hum        : HumCoeffs
  deriving DecidableEq, Repr

/-- The Sample Cache (R20, R38 to R42). -/
structure SampleCache where
  sampleValid : Bool
  adcP        : BitVec 20
  adcT        : BitVec 20
  adcH        : BitVec 16
  lastTs      : BitVec 64
  tfineValid  : Bool
  tFine       : BitVec 23
  tValid      : Bool
  tOut        : BitVec 18
  pValid      : Bool
  pUndef      : Bool
  pOut        : BitVec 128
  hValid      : Bool
  hOut        : BitVec 17
  deriving DecidableEq, Repr

/-- The registers of R23 and the STATUS view of R32, by name. -/
inductive Reg where
  | state | busy | variant | chipId | cmd | arg | completion | result | status
  | interval
  | calibValid
  | t1 | t2 | t3 | p1 | p2 | p3 | p4 | p5 | p6 | p7 | p8 | p9
  | h1 | h2 | h3 | h4 | h5 | h6
  | sampleValid | adcP | adcT | adcH | lastTs
  | tfineValid | tFine | tValid | tOut | pValid | pUndef | pOut | hValid | hOut
  deriving DecidableEq, Repr

/-- What BUS answers (R74): bytes or `CommErr` to a MemRead, `ok` or `CommErr` to a MemWrite. -/
inductive BusAnswer where
  | commErr
  | ok
  | bytes (bs : List Byte)
  deriving DecidableEq, Repr

/-- One event of the bus history (R66), with the device address it went to (R63). -/
inductive BusEvent where
  /-- `Read(off, n, answer)`; the answer none is `CommErr`. -/
  | read (dev : BitVec 7) (off : Byte) (n : Nat) (answer : Option (List Byte))
  /-- `Write(off, bytes, answer)`; the answer false is `CommErr`. -/
  | write (dev : BitVec 7) (off : Byte) (bytes : List Byte) (ok : Bool)
  /-- `Wait(d)`. -/
  | wait (ms : Nat)
  deriving DecidableEq, Repr

/-- What HOST can do to the engine (R300). -/
inductive HostAction where
  /-- Write ARG, then CMD (R130). -/
  | issue (arg : BitVec 64) (cmd : CmdWord)
  /-- Assert reset (R320). -/
  | reset
  /-- Read a register. -/
  | read (r : Reg)
  deriving DecidableEq, Repr

/-- The other agents of R8 as plain data: what HOST does next, what BUS answers next, and the bus history, which is
the observation and no engine state (R46, R66). DESIGN CHOICE: assumptions 2 and 3. -/
structure Agents where
  /-- The actions HOST has still to take, the next one first. -/
  host    : List HostAction
  /-- The answers BUS has still to give, the next one first. -/
  bus     : List BusAnswer
  /-- The bus history, oldest event first. -/
  history : List BusEvent
  deriving DecidableEq, Repr

/-- The machine (R20). -/
structure State where
  port     : Port
  /-- INTERVAL, in ms (R33). -/
  interval : BitVec 64
  store    : CalibStore
  cache    : SampleCache
  agents   : Agents
  deriving DecidableEq, Repr

/-- The faults of the machine, both of a host read: no command faults, and a completion code is no fault (R302). -/
inductive Fault where
  /-- The host reads H1..H6 or ADC_H in variant TP, where they do not exist (R36, R39; "a model faults", R21, R300, U4).
  Raised by `hostRead`. Safe: the model stops. DEDUCED: assumption 13. -/
  | readOfAbsentRegister (r : Reg)
  /-- There is a sample, and the host reads T_FINE or an output that has not been computed from it: "they must never be
  read from a stale raw sample" (R43; R21, R202, R300, U4). Raised by `hostRead`. Safe: the model stops. DEDUCED:
  assumption 13. -/
  | readOfUncomputedValue (r : Reg)
  deriving DecidableEq, Repr

/-- The refusals of the machine: where the spec gives it no move. -/
inductive Refusal where
  /-- An instruction without a meaning, raised by exec's arm only. Safe. -/
  | notModelled (mnemonic : String)
  /-- The host writes CMD while BUSY = 1 (R300, U5). Raised by `hostIssue`. Safe: the model stops. -/
  | cmdWriteWhileBusy
  /-- The host asserts reset while BUSY = 1 (R321, U5). Raised by `hostReset`. Safe: the model stops. -/
  | resetWhileBusy
  /-- The host reads a register while BUSY = 1 (R300, D2). Raised by `hostRead`. Safe: the model stops. -/
  | readWhileBusy (r : Reg)
  /-- The next answer of BUS has not the form of an answer to the request, which R72 and R74 exclude. Raised by
  `memRead` and `memWrite`. Safe: the model stops. -/
  | notAnAnswer
  deriving DecidableEq, Repr

/-- Coefficients of zero: what the coefficient registers hold at reset. DESIGN CHOICE: R23 gives them "no value", and no
command reads them before INIT has written them (assumption 1). -/
def TpCoeffs.zero : TpCoeffs := ⟨0, 0, 0, 0, 0, 0, 0, 0, 0, 0, 0, 0⟩

/-- See `TpCoeffs.zero`. -/
def HumCoeffs.zero : HumCoeffs := ⟨0, 0, 0, 0, 0, 0⟩

/-- The sequencer and port registers after reset (R320). CHIP_ID, CMD and ARG: DESIGN CHOICE 0, assumption 1. -/
def Port.reset : Port where
  state := .uninit
  busy := false
  variant := .none
  chipId := 0
  cmd := 0
  arg := 0
  completion := .ok
  result := 0
  issued := false
  pending := none

/-- The Calibration Store after reset (R320). Coefficients: DESIGN CHOICE 0, assumption 1. -/
def CalibStore.reset : CalibStore := ⟨false, TpCoeffs.zero, HumCoeffs.zero⟩

/-- The Sample Cache after reset: EMPTY, every valid bit 0 (R320). Counts, LAST_TS, T_FINE and outputs: DESIGN
CHOICE 0, assumption 1. -/
def SampleCache.reset : SampleCache where
  sampleValid := false
  adcP := 0
  adcT := 0
  adcH := 0
  lastTs := 0
  tfineValid := false
  tFine := 0
  tValid := false
  tOut := 0
  pValid := false
  pUndef := false
  pOut := 0
  hValid := false
  hOut := 0

/-- The machine right after reset (R320): the registers as R23 says, no host action and no bus answer waiting, no
bus event recorded (R322). -/
def State.reset : State where
  port := Port.reset
  interval := Config.intervalReset
  store := CalibStore.reset
  cache := SampleCache.reset
  agents := ⟨[], [], []⟩

end Sys2Proof.Machine
end

