-- ==== Sys2Proof/Machine/Operands.lean ====
section
/-! DEFINITION. The operand forms: the primitives of R12 and R13, and the decoding of the sensor's bytes into
coefficients and raw counts (R97 to R104, R154 to R168, R198). All are pure. -/

namespace Sys2Proof.Machine

/-- `a >> k`: floor of a / 2^k, on integers (R12). -/
def shr (a : Int) (k : Nat) : Int := a / ((2 ^ k : Nat) : Int)

/-- `a << k`: a * 2^k, on integers (R12). -/
def shl (a : Int) (k : Nat) : Int := a * ((2 ^ k : Nat) : Int)

/-- `tdiv(a, b)`: a / b truncated toward zero (R12). -/
def tdiv (a b : Int) : Int := Int.tdiv a b

/-- `clamp(v, lo, hi)` (R12). -/
def clamp (v lo hi : Int) : Int := if v < lo then lo else if v > hi then hi else v

/-- Byte i of a MemRead's answer. Every use is below the length the answer was checked against. -/
def byteAt (bs : List Byte) (i : Nat) : Byte := bs.getD i 0

/-- `le16(b0, b1)`: the byte at the lower offset is the less significant (R13, R65). -/
def le16 (b0 b1 : Byte) : BitVec 16 := b0.setWidth 16 ||| (b1.setWidth 16 <<< 8)

/-- The identity decode (R97, R154): all eight bits are compared. -/
def variantOf (id : Byte) : Variant :=
  if id = 0x58 then .tp else if id = 0x60 then .tph else .none

/-- decode_tp: twelve 16-bit little-endian coefficients in listing order (R100, R158). The signed reading of T2, T3
and P2..P9 is made where a formula reads them. -/
def decodeTp (c : List Byte) : TpCoeffs where
  t1 := le16 (byteAt c 0) (byteAt c 1)
  t2 := le16 (byteAt c 2) (byteAt c 3)
  t3 := le16 (byteAt c 4) (byteAt c 5)
  p1 := le16 (byteAt c 6) (byteAt c 7)
  p2 := le16 (byteAt c 8) (byteAt c 9)
  p3 := le16 (byteAt c 10) (byteAt c 11)
  p4 := le16 (byteAt c 12) (byteAt c 13)
  p5 := le16 (byteAt c 14) (byteAt c 15)
  p6 := le16 (byteAt c 16) (byteAt c 17)
  p7 := le16 (byteAt c 18) (byteAt c 19)
  p8 := le16 (byteAt c 20) (byteAt c 21)
  p9 := le16 (byteAt c 22) (byteAt c 23)

/-- H4 in the document's shift-and-OR form: the sign-extended byte at 0xE4 shifted up, OR'd with bits 3:0 of the
shared byte at 0xE5 (R163). -/
def decodeH4 (e3 e4 : Byte) : BitVec 12 := (e3.signExtend 12 <<< 4) ||| (e4 &&& 0x0F).setWidth 12

/-- H5 in the same form: the byte at 0xE6, and bits 7:4 of the shared byte at 0xE5 (R164). -/
def decodeH5 (e5 e4 : Byte) : BitVec 12 := (e5.signExtend 12 <<< 4) ||| (e4 >>> 4).setWidth 12

/-- decode_h: H1 from the byte at 0xA1, the others from the seven bytes at 0xE1..0xE7 (R101 to R103, R160 to R166). -/
def decodeH (a : Byte) (e : List Byte) : HumCoeffs where
  h1 := a
  h2 := le16 (byteAt e 0) (byteAt e 1)
  h3 := byteAt e 2
  h4 := decodeH4 (byteAt e 3) (byteAt e 4)
  h5 := decodeH5 (byteAt e 5) (byteAt e 4)
  h6 := byteAt e 6

/-- pack_h45, the inverse of the H4/H5 decode: the bytes at 0xE4, 0xE5 and 0xE6 (R167). -/
def packH45 (h4 h5 : BitVec 12) : Byte × Byte × Byte :=
  ((h4.sshiftRight 4).setWidth 8, ((h5 &&& 0x0F).setWidth 8 <<< 4) ||| (h4 &&& 0x0F).setWidth 8,
    (h5.sshiftRight 4).setWidth 8)

/-- A 20-bit count from three bytes, most significant byte first; bits 3:0 of the last byte are dropped (R67, R198). -/
def count20 (hi mid lo : Byte) : BitVec 20 :=
  (hi.setWidth 20 <<< 12) ||| (mid.setWidth 20 <<< 4) ||| (lo >>> 4).setWidth 20

/-- ADC_P of a burst (R104, R198). -/
def burstP (b : List Byte) : BitVec 20 := count20 (byteAt b 0) (byteAt b 1) (byteAt b 2)

/-- ADC_T of a burst (R104, R198). -/
def burstT (b : List Byte) : BitVec 20 := count20 (byteAt b 3) (byteAt b 4) (byteAt b 5)

/-- ADC_H of an 8-byte burst (R104, R198). -/
def burstH (b : List Byte) : BitVec 16 := ((byteAt b 6).setWidth 16 <<< 8) ||| (byteAt b 7).setWidth 16

/-- The burst length n of `(VARIANT = TP) ? 6 : 8` (R193, R197). VARIANT = NONE takes the second branch: DEDUCED,
assumption 15. -/
def burstLength (v : Variant) : Nat := if v = .tp then 6 else 8

end Sys2Proof.Machine
end

