-- ==== Sys2Proof/Machine/Flags.lean ====
section
/-! DEFINITION. The encodings of the enumerated registers, the STATUS view, the staleness test, which registers hold a
value and which may not be read (R21, R23, R25, R26, R32, R95, R194). -/

namespace Sys2Proof.Machine

/-- The 2-bit encoding of STATE (R23). -/
def ConState.code : ConState → BitVec 2
  | .uninit => 0
  | .ready => 1
  | .failed => 2

/-- The 2-bit encoding of VARIANT (R23). -/
def Variant.code : Variant → BitVec 2
  | .none => 0
  | .tp => 1
  | .tph => 2

/-- The 8-bit encoding of COMPLETION (R95). -/
def Completion.code : Completion → Byte
  | .ok => 0x00
  | .undefinedResult => 0x01
  | .communicationError => 0x10
  | .unrecognizedDevice => 0x11
  | .unsupportedOperation => 0x12
  | .notReady => 0x13
  | .alreadyInitialized => 0x14
  | .illegalCommand => 0x15

/-- Whether R95 classes a code as an error. -/
def Completion.isError : Completion → Bool
  | .ok => false
  | .undefinedResult => false
  | .communicationError => true
  | .unrecognizedDevice => true
  | .unsupportedOperation => true
  | .notReady => true
  | .alreadyInitialized => true
  | .illegalCommand => true

/-- One flag in one bit. -/
def flagBit (b : Bool) : BitVec 1 := BitVec.ofBool b

/-- STATUS, the read-only view: bits 31:12 reserved and 0, then the flags down to BUSY in bit 0 (R32). -/
def status (s : State) : BitVec 32 :=
  0#20 ++ flagBit s.cache.hValid ++ flagBit s.cache.pUndef ++ flagBit s.cache.pValid ++ flagBit s.cache.tValid ++
    flagBit s.cache.tfineValid ++ flagBit s.cache.sampleValid ++ flagBit s.store.calibValid ++
    s.port.variant.code ++ s.port.state.code ++ flagBit s.port.busy

/-- `now - LAST_TS`, an exact integer that is negative when the clock went back (R194). -/
def sampleAge (now : BitVec 64) (s : State) : Int := (now.toNat : Int) - s.cache.lastTs.toNat

/-- The staleness test: the cached sample is fresh (R194). LAST_TS does not matter while SAMPLE_VALID = 0. -/
def fresh (now : BitVec 64) (s : State) : Bool :=
  s.cache.sampleValid && decide (sampleAge now s ≤ s.interval.toNat)

/-- The sample and the bits a successful refresh writes with it (R193, R201, R202, R203). The old T_FINE and outputs
stay where they are, without their valid bits. -/
def loadSample (now : BitVec 64) (b : List Byte) (s : State) : State :=
  { s with cache :=
    { s.cache with
      adcP := burstP b
      adcT := burstT b
      adcH := if s.port.variant = .tph then burstH b else s.cache.adcH
      lastTs := now
      sampleValid := true
      tfineValid := false
      tValid := false
      pValid := false
      pUndef := false
      hValid := false } }

/-- Whether the register holds a value (R21, R168, R203, U4): a data register does exactly while its valid bit is 1, the
humidity registers only in variant TPH, CHIP_ID from the INIT that got the byte on (R27), and CMD and ARG from the first
issue after reset on (R320). The claims use it to say what a command reads. DEDUCED: assumption 13. -/
def holdsValue (r : Reg) (s : State) : Bool :=
  match r with
  | .state | .busy | .variant | .completion | .result | .status | .interval => true
  | .cmd | .arg => s.port.issued
  | .calibValid | .sampleValid | .tfineValid | .tValid | .pValid | .pUndef | .hValid => true
  | .chipId => s.port.state != .uninit
  | .t1 | .t2 | .t3 | .p1 | .p2 | .p3 | .p4 | .p5 | .p6 | .p7 | .p8 | .p9 => s.store.calibValid
  | .h1 | .h2 | .h3 | .h4 | .h5 | .h6 => s.store.calibValid && s.port.variant == .tph
  | .adcP | .adcT | .lastTs => s.cache.sampleValid
  | .adcH => s.cache.sampleValid && s.port.variant == .tph
  | .tFine => s.cache.tfineValid
  | .tOut => s.cache.tValid
  | .pOut => s.cache.pValid
  | .hOut => s.cache.hValid

/-- Whether the variant lacks the register: H1..H6 and ADC_H "exist in variant TPH only" (R36, R39). While VARIANT = NONE
it is not yet known. -/
def absentRegister (r : Reg) (s : State) : Bool :=
  s.port.variant == .tp && [Reg.h1, .h2, .h3, .h4, .h5, .h6, .adcH].contains r

/-- Whether there is a sample and the register is a value derived from samples that has not been computed from this one
(R43, R202). -/
def uncomputedValue (r : Reg) (s : State) : Bool :=
  s.cache.sampleValid && [Reg.tFine, .tOut, .pOut, .hOut].contains r && !holdsValue r s

/-- A flag as an integer. -/
def bit (b : Bool) : Int := if b then 1 else 0

/-- The value of a register as the integer its type of R23 gives it. -/
def regValue (r : Reg) (s : State) : Int :=
  match r with
  | .state => s.port.state.code.toNat
  | .busy => bit s.port.busy
  | .variant => s.port.variant.code.toNat
  | .chipId => s.port.chipId.toNat
  | .cmd => s.port.cmd.toNat
  | .arg => s.port.arg.toNat
  | .completion => s.port.completion.code.toNat
  | .result => s.port.result.toInt
  | .status => (status s).toNat
  | .interval => s.interval.toNat
  | .calibValid => bit s.store.calibValid
  | .t1 => s.store.tp.t1.toNat
  | .t2 => s.store.tp.t2.toInt
  | .t3 => s.store.tp.t3.toInt
  | .p1 => s.store.tp.p1.toNat
  | .p2 => s.store.tp.p2.toInt
  | .p3 => s.store.tp.p3.toInt
  | .p4 => s.store.tp.p4.toInt
  | .p5 => s.store.tp.p5.toInt
  | .p6 => s.store.tp.p6.toInt
  | .p7 => s.store.tp.p7.toInt
  | .p8 => s.store.tp.p8.toInt
  | .p9 => s.store.tp.p9.toInt
  | .h1 => s.store.hum.h1.toInt
  | .h2 => s.store.hum.h2.toInt
  | .h3 => s.store.hum.h3.toInt
  | .h4 => s.store.hum.h4.toInt
  | .h5 => s.store.hum.h5.toInt
  | .h6 => s.store.hum.h6.toInt
  | .sampleValid => bit s.cache.sampleValid
  | .adcP => s.cache.adcP.toNat
  | .adcT => s.cache.adcT.toNat
  | .adcH => s.cache.adcH.toNat
  | .lastTs => s.cache.lastTs.toNat
  | .tfineValid => bit s.cache.tfineValid
  | .tFine => s.cache.tFine.toInt
  | .tValid => bit s.cache.tValid
  | .tOut => s.cache.tOut.toInt
  | .pValid => bit s.cache.pValid
  | .pUndef => bit s.cache.pUndef
  | .pOut => s.cache.pOut.toInt
  | .hValid => bit s.cache.hValid
  | .hOut => s.cache.hOut.toNat

end Sys2Proof.Machine
end

