-- ==== Sys2Proof/Machine/Formulas.lean ====
section
/-! DEFINITION. The Compensation Engine: pure functions in exact integer arithmetic (R230 to R238), and their
application to the register types of R10. The formulas are the spec's (R232, R235, R237), which has them from general
knowledge (GK4): PRESUMED, assumption 11. Loading a result into its register is exact: DEDUCED, assumption 9. -/

namespace Sys2Proof.Machine

/-- The first term of the fine temperature (R232). -/
def tfineVar1 (adcT t1 t2 : Int) : Int := shr ((shr adcT 3 - shl t1 1) * t2) 11

/-- The second term of the fine temperature (R232). -/
def tfineVar2 (adcT t1 t3 : Int) : Int :=
  let d := shr adcT 4 - t1
  shr (shr (d * d) 12 * t3) 14

/-- The fine temperature (R232). -/
def tfine (adcT t1 t2 t3 : Int) : Int := tfineVar1 adcT t1 t2 + tfineVar2 adcT t1 t3

/-- The temperature in units of 0.01 °C (R234). -/
def temp (tf : Int) : Int := shr (tf * 5 + 128) 8

/-- var1 of the pressure ladder just before the P1 step: var1' of R236 (R235). -/
def presVar1 (tf p2 p3 : Int) : Int :=
  let v := tf - 128000
  shr (v * v * p3) 8 + shl (v * p2) 12

/-- The P1-derived var1 term, the divisor of the pressure (R235, R236). -/
def presDivisor (tf p1 p2 p3 : Int) : Int := shr ((shl 1 47 + presVar1 tf p2 p3) * p1) 33

/-- var2 of the pressure ladder after the P4 term (R235). -/
def presVar2 (tf p4 p5 p6 : Int) : Int :=
  let v := tf - 128000
  v * v * p6 + shl (v * p5) 17 + shl p4 35

/-- p after the division (R235). -/
def presQuotient (adcP var2 divisor : Int) : Int := tdiv ((shl (1048576 - adcP) 31 - var2) * 3125) divisor

/-- The P7..P9 correction terms (R235). -/
def presCorrected (p p7 p8 p9 : Int) : Int :=
  shr (p + shr (p9 * shr p 13 * shr p 13) 25 + shr (p8 * p) 19) 8 + shl p7 4

/-- The pressure in units of 1/256 Pa; none is UNDEF, answered before any division (R235, R236). -/
def pres (tf adcP p1 p2 p3 p4 p5 p6 p7 p8 p9 : Int) : Option Int :=
  if presDivisor tf p1 p2 p3 = 0 then none
  else some (presCorrected (presQuotient adcP (presVar2 tf p4 p5 p6) (presDivisor tf p1 p2 p3)) p7 p8 p9)

/-- The a term of the humidity (R237). -/
def humA (x adcH h4 h5 : Int) : Int := shr (shl adcH 14 - shl h4 20 - h5 * x + 16384) 15

/-- u of the three-part reading of the b line (R237). -/
def humU (x h3 h6 : Int) : Int := shr (x * h6) 10 * (shr (x * h3) 11 + 32768)

/-- The b term of the humidity (R237). -/
def humB (x h2 h3 h6 : Int) : Int := shr ((shr (humU x h3 h6) 10 + 2097152) * h2 + 8192) 14

/-- The H1 correction of the humidity (R237). -/
def humCorrected (x h1 : Int) : Int := x - shr (shr (shr x 15 * shr x 15) 7 * h1) 4

/-- The raw intermediate of the humidity, before the clamp (R237). -/
def humRaw (tf adcH h1 h2 h3 h4 h5 h6 : Int) : Int :=
  humCorrected (humA (tf - 76800) adcH h4 h5 * humB (tf - 76800) h2 h3 h6) h1

/-- The humidity in units of 1/1024 %RH; the clamp stands before the shift (R237, R238). -/
def hum (tf adcH h1 h2 h3 h4 h5 h6 : Int) : Int :=
  shr (clamp (humRaw tf adcH h1 h2 h3 h4 h5 h6) 0 419430400) 12

/-- The fine temperature of a raw count and coefficients: T1 unsigned, T2 and T3 signed (R158, R232). -/
def tfineOf (adcT : BitVec 20) (c : TpCoeffs) : Int := tfine adcT.toNat c.t1.toNat c.t2.toInt c.t3.toInt

/-- The pressure of a fine temperature, a raw count and coefficients: P1 unsigned, P2..P9 signed (R158, R235). -/
def presOf (tf : BitVec 23) (adcP : BitVec 20) (c : TpCoeffs) : Option Int :=
  pres tf.toInt adcP.toNat c.p1.toNat c.p2.toInt c.p3.toInt c.p4.toInt c.p5.toInt c.p6.toInt c.p7.toInt
    c.p8.toInt c.p9.toInt

/-- The humidity of a fine temperature, a raw count and coefficients, H1..H6 all signed (R160 to R166, R237). -/
def humOf (tf : BitVec 23) (adcH : BitVec 16) (c : HumCoeffs) : Int :=
  hum tf.toInt adcH.toNat c.h1.toInt c.h2.toInt c.h3.toInt c.h4.toInt c.h5.toInt c.h6.toInt

/-- What T_FINE is loaded with (R233); s23 holds every fine temperature (R262). -/
def tFineReg (adcT : BitVec 20) (c : TpCoeffs) : BitVec 23 := BitVec.ofInt 23 (tfineOf adcT c)

/-- What T_OUT is loaded with (R240); s18 holds every temperature (R262). -/
def tOutReg (tf : BitVec 23) : BitVec 18 := BitVec.ofInt 18 (temp tf.toInt)

/-- What P_OUT and P_UNDEF are loaded with (R244, R245). -/
def pOutReg (tf : BitVec 23) (adcP : BitVec 20) (c : TpCoeffs) : BitVec 128 × Bool :=
  match presOf tf adcP c with
  | none => (0, true)
  | some r => (BitVec.ofInt 128 r, false)

/-- What H_OUT is loaded with (R250); u17 holds every humidity (R238, R262). -/
def hOutReg (tf : BitVec 23) (adcH : BitVec 16) (c : HumCoeffs) : BitVec 17 := BitVec.ofInt 17 (humOf tf adcH c)

end Sys2Proof.Machine
end

