-- ==== Sys2Proof/Machine/Ops.lean ====
section
/-! DEFINITION. The shared operations: completion and raising a condition (R16, R132, R287), the bus primitives with
the bus history (R15, R66, R72, R75), waiting on BUS (R301), ensure_fresh (R193) and ensure_tfine (R233). A command that has to wait in the middle is cut at its bus events: each part is given what
comes next as a continuation. -/

namespace Sys2Proof.Machine

/-- What a command or a part of one answers. -/
abbrev Out := Host.Outcome State Fault Refusal

/-- `raise Code`, the engine's whole exception entry: COMPLETION <- Code, then BUSY <- 0; nothing else is saved and
no handler is entered (R16, R132, R287). There is no return operation beside it: the engine is then idle (R288). -/
def raise (c : Completion) (s : State) : State :=
  { s with port := { s.port with completion := c, busy := false, pending := none } }

/-- RESULT <- v, sign-extended to 128 bits (R16, R31). -/
def setResult (v : Int) (s : State) : State := { s with port := { s.port with result := BitVec.ofInt 128 v } }

/-- `complete Code(v)` (R16). -/
def complete (c : Completion) (v : Int) (s : State) : State := raise c (setResult v s)

/-- The engine waits on BUS: BUSY stays 1 and no register changes (R301). -/
def stall (p : Pending) (s : State) : State := { s with port := { s.port with busy := true, pending := some p } }

/-- Add an event to the bus history (R66). -/
def record (e : BusEvent) (s : State) : State :=
  { s with agents := { s.agents with history := s.agents.history ++ [e] } }

/-- BUS has answered the open request: its answer is used up. -/
def takeAnswer (rest : List BusAnswer) (s : State) : State :=
  { s with port := { s.port with pending := none }, agents := { s.agents with bus := rest } }

/-- The event of a MemRead (R15, R63, R66). -/
def readEvent (off : Byte) (n : Nat) (answer : Option (List Byte)) : BusEvent :=
  .read Config.params.devAddr off n answer

/-- The event of the one MemWrite the engine issues: CTRL_MEAS_VALUE to offset 0xF4 (R63, R98, R99). -/
def controlEvent (ok : Bool) : BusEvent := .write Config.params.devAddr 0xF4 [Config.params.ctrlMeasValue] ok

/-- The event of the settle delay; it has no duration (R63, R340). -/
def settleEvent : BusEvent := .wait Config.params.settleDelay

/-- `MemRead(off, n)`: exactly n bytes or `CommErr` (R15, R72, R74). `k` goes on with the answer, none being
`CommErr`. Without an answer the engine waits in phase `p`. -/
def memRead (off : Byte) (n : Nat) (p : Pending) (k : Option (List Byte) → State → Out) (s : State) : Out :=
  match s.agents.bus with
  | [] => .next (stall p s)
  | .commErr :: rest => k none (record (readEvent off n none) (takeAnswer rest s))
  | .bytes bs :: rest =>
    if bs.length = n then k (some bs) (record (readEvent off n (some bs)) (takeAnswer rest s))
    else .refused .notAnAnswer
  | .ok :: _ => .refused .notAnAnswer

/-- `MemWrite(0xF4, [CTRL_MEAS_VALUE])`: `ok` (true) or `CommErr` (false) (R15, R72, R74). -/
def memWriteControl (p : Pending) (k : Bool → State → Out) (s : State) : Out :=
  match s.agents.bus with
  | [] => .next (stall p s)
  | .commErr :: rest => k false (record (controlEvent false) (takeAnswer rest s))
  | .ok :: rest => k true (record (controlEvent true) (takeAnswer rest s))
  | .bytes _ :: _ => .refused .notAnAnswer

/-- The burst has been answered: on `CommErr` nothing but COMPLETION changes (R200); otherwise the sample is loaded
and the command goes on with r = 1 (R193). -/
def gotBurst (k : Bool → State → Out) (b : Option (List Byte)) (s : State) : Out :=
  match b with
  | none => .next (raise .communicationError s)
  | some bs => k true (loadSample s.port.arg bs s)

/-- The burst MemRead of a refresh (R193, R197). -/
def readBurst (r : Reader) (k : Bool → State → Out) (s : State) : Out :=
  memRead 0xF7 (burstLength s.port.variant) (.burst r) (gotBurst k) s

/-- The control write has been answered: the Wait and the burst follow only an `ok` (R193, R196, R200). -/
def gotControl (r : Reader) (k : Bool → State → Out) (ok : Bool) (s : State) : Out :=
  match ok with
  | false => .next (raise .communicationError s)
  | true => readBurst r k (record settleEvent s)

/-- The conversion sequence: control write, settle delay, burst read (R196). -/
def convert (r : Reader) (k : Bool → State → Out) (s : State) : Out :=
  memWriteControl (.control r) (gotControl r k) s

/-- `ensure_fresh(now)` with `now` = ARG; `k` goes on with the r of R192, true after a conversion (R193 to R195).
Called only when STATE = READY. -/
def ensureFresh (r : Reader) (k : Bool → State → Out) (s : State) : Out :=
  if fresh s.port.arg s then k false s else convert r k s

/-- T_FINE <- the fine temperature of the sample, TFINE_VALID <- 1 (R233). -/
def loadTFine (s : State) : State :=
  { s with cache := { s.cache with tFine := tFineReg s.cache.adcT s.store.tp, tfineValid := true } }

/-- `ensure_tfine()`: T_FINE is computed at most once per sample; `k` goes on with it (R233, R255). -/
def ensureTFine (k : BitVec 23 → State → Out) (s : State) : Out :=
  if s.cache.tfineValid then k s.cache.tFine s
  else k (tFineReg s.cache.adcT s.store.tp) (loadTFine s)

end Sys2Proof.Machine
end

