-- ==== Sys2Proof/Machine/Accessors.lean ====
section
/-! DEFINITION. The accessors READ_TEMP, READ_PRES and READ_HUM (R240, R244, R250). An output is computed on the first
accessor of its kind after a refresh and cached until the next one. -/

namespace Sys2Proof.Machine

/-- T_OUT <- temp(tf), T_VALID <- 1 (R240). -/
def loadTOut (tf : BitVec 23) (s : State) : State :=
  { s with cache := { s.cache with tOut := tOutReg tf, tValid := true } }

/-- P_OUT and P_UNDEF <- the pressure or its sentinel, P_VALID <- 1 (R244, R245). -/
def loadPOut (tf : BitVec 23) (s : State) : State :=
  { s with cache :=
    { s.cache with
      pOut := (pOutReg tf s.cache.adcP s.store.tp).1
      pUndef := (pOutReg tf s.cache.adcP s.store.tp).2
      pValid := true } }

/-- H_OUT <- hum(tf, ADC_H, H1..H6), H_VALID <- 1 (R250). -/
def loadHOut (tf : BitVec 23) (s : State) : State :=
  { s with cache := { s.cache with hOut := hOutReg tf s.cache.adcH s.store.hum, hValid := true } }

/-- `complete OK(T_OUT)` (R240). -/
def completeTemp (s : State) : State := complete .ok s.cache.tOut.toInt s

/-- `complete UNDEFINED_RESULT(0)` or `complete OK(P_OUT)` (R244). -/
def completePres (s : State) : State :=
  if s.cache.pUndef then complete .undefinedResult 0 s else complete .ok s.cache.pOut.toInt s

/-- `complete OK(H_OUT)` (R250). -/
def completeHum (s : State) : State := complete .ok s.cache.hOut.toNat s

/-- READ_TEMP after ensure_fresh (R240). -/
def finishTemp (_converted : Bool) (s : State) : Out :=
  if s.cache.tValid then .next (completeTemp s)
  else ensureTFine (fun tf s => .next (completeTemp (loadTOut tf s))) s

/-- READ_PRES after ensure_fresh (R244). -/
def finishPres (_converted : Bool) (s : State) : Out :=
  if s.cache.pValid then .next (completePres s)
  else ensureTFine (fun tf s => .next (completePres (loadPOut tf s))) s

/-- READ_HUM after ensure_fresh (R250). -/
def finishHum (_converted : Bool) (s : State) : Out :=
  if s.cache.hValid then .next (completeHum s)
  else ensureTFine (fun tf s => .next (completeHum (loadHOut tf s))) s

/-- READ_TEMP (R240). -/
def execReadTemp (s : State) : Out :=
  if s.port.state = .ready then ensureFresh .temp finishTemp s else .next (raise .notReady s)

/-- READ_PRES (R244). -/
def execReadPres (s : State) : Out :=
  if s.port.state = .ready then ensureFresh .pres finishPres s else .next (raise .notReady s)

/-- READ_HUM: the variant is checked before any bus event (R250, R251). -/
def execReadHum (s : State) : Out :=
  if s.port.state = .ready then
    if s.port.variant = .tph then ensureFresh .hum finishHum s else .next (raise .unsupportedOperation s)
  else .next (raise .notReady s)

end Sys2Proof.Machine
end

