-- ==== Sys2Proof/Machine/Calibration.lean ====
section
/-! DEFINITION. INIT, the Calibration Store's command (R150 to R157), cut at its bus reads. -/

namespace Sys2Proof.Machine

/-- The unrecognized device: CHIP_ID <- id, STATE <- FAILED (R155). -/
def failIdentity (id : Byte) (s : State) : State :=
  { s with port := { s.port with chipId := id, state := .failed } }

/-- The commit both variants share: CHIP_ID, VARIANT, T1..P9, CALIB_VALID and STATE (R151, R156). -/
def commitTp (id : Byte) (c : List Byte) (s : State) : State :=
  { s with
    port := { s.port with chipId := id, variant := variantOf id, state := .ready }
    store := { s.store with tp := decodeTp c, calibValid := true } }

/-- The humidity part of the commit, variant TPH only (R151). -/
def commitHum (a : Byte) (e : List Byte) (s : State) : State :=
  { s with store := { s.store with hum := decodeH a e } }

/-- `MemRead(0xE1, 7)` has been answered: the TPH commit (R151, R156). -/
def gotHumidityRest (id : Byte) (c : List Byte) (a : Byte) (r : Option (List Byte)) (s : State) : Out :=
  match r with
  | none => .next (raise .communicationError s)
  | some e => .next (complete .ok id.toNat (commitHum a e (commitTp id c s)))

/-- The last read of INIT in variant TPH (R151). -/
def readHumidityRest (id : Byte) (c : List Byte) (a : Byte) (s : State) : Out :=
  memRead 0xE1 7 (.humidityRest id c a) (gotHumidityRest id c a) s

/-- `MemRead(0xA1, 1)` has been answered (R151). -/
def gotHumidityFirst (id : Byte) (c : List Byte) (r : Option (List Byte)) (s : State) : Out :=
  match r with
  | none => .next (raise .communicationError s)
  | some a => readHumidityRest id c (byteAt a 0) s

/-- The read of H1's register in variant TPH (R151). -/
def readHumidityFirst (id : Byte) (c : List Byte) (s : State) : Out :=
  memRead 0xA1 1 (.humidityFirst id c) (gotHumidityFirst id c) s

/-- `MemRead(0x88, 24)` has been answered: the TP commit, or on to the humidity bytes (R151). -/
def gotCalibration (id : Byte) (r : Option (List Byte)) (s : State) : Out :=
  match r with
  | none => .next (raise .communicationError s)
  | some c =>
    if variantOf id = .tph then readHumidityFirst id c s else .next (complete .ok id.toNat (commitTp id c s))

/-- The calibration read (R151). -/
def readCalibration (id : Byte) (s : State) : Out := memRead 0x88 24 (.calibration id) (gotCalibration id) s

/-- `MemRead(0xD0, 1)` has been answered: the identity decides how INIT goes on (R151, R154, R155). -/
def gotIdentity (r : Option (List Byte)) (s : State) : Out :=
  match r with
  | none => .next (raise .communicationError s)
  | some bs =>
    if variantOf (byteAt bs 0) = .none then .next (raise .unrecognizedDevice (failIdentity (byteAt bs 0) s))
    else readCalibration (byteAt bs 0) s

/-- The identity read comes first (R151). -/
def readIdentity (s : State) : Out := memRead 0xD0 1 .identity gotIdentity s

/-- INIT (R150, R151, R153). -/
def execInit (s : State) : Out :=
  match s.port.state with
  | .ready => .next (raise .alreadyInitialized s)
  | .failed => .next (raise .notReady s)
  | .uninit => readIdentity s

end Sys2Proof.Machine
end

