-- ==== Sys2Proof/Machine/Protocol.lean ====
section
/-! DEFINITION. The command protocol's own command, NOP, and what an illegal word does (R133, R135). -/

namespace Sys2Proof.Machine

/-- NOP: `complete OK`, with no value (R135). -/
def execNop (s : State) : Out := .next (raise .ok s)

/-- An illegal command word completes ILLEGAL_COMMAND and does nothing else (R93, R133). -/
def illegalCommand (s : State) : Out := .next (raise .illegalCommand s)

end Sys2Proof.Machine
end

