-- ==== Sys2Proof/Machine/SampleCommands.lean ====
section
/-! DEFINITION. The Sample Cache's commands, SET_INTERVAL and REFRESH (R190 to R193). -/

namespace Sys2Proof.Machine

/-- INTERVAL <- v (R190). -/
def setInterval (v : BitVec 64) (s : State) : State := { s with interval := v }

/-- SET_INTERVAL: in every STATE (R190, R191). -/
def execSetInterval (s : State) : Out := .next (complete .ok s.port.arg.toNat (setInterval s.port.arg s))

/-- REFRESH after ensure_fresh: `complete OK(r)` (R192). -/
def finishRefresh (converted : Bool) (s : State) : Out := .next (complete .ok (bit converted) s)

/-- REFRESH (R192). -/
def execRefresh (s : State) : Out :=
  if s.port.state = .ready then ensureFresh .refresh finishRefresh s else .next (raise .notReady s)

end Sys2Proof.Machine
end

