-- ==== Sys2Proof/Machine/Dispatch.lean ====
section
/-! DEFINITION. exec: one arm per command of the opcode map (R92, R133). -/

namespace Sys2Proof.Machine

def exec (i : Instr) (s : State) : Host.Outcome State Fault Refusal :=
  match i with
  | .nop => Sys2Proof.Machine.execNop s
  | .init => Sys2Proof.Machine.execInit s
  | .setInterval => Sys2Proof.Machine.execSetInterval s
  | .refresh => Sys2Proof.Machine.execRefresh s
  | .readTemp => Sys2Proof.Machine.execReadTemp s
  | .readPres => Sys2Proof.Machine.execReadPres s
  | .readHum => Sys2Proof.Machine.execReadHum s

end Sys2Proof.Machine
end

