-- ==== Sys2Proof/Machine/HostPort.lean ====
section
/-! DEFINITION. What HOST does to the engine (R130, R300, R320 to R323). -/

namespace Sys2Proof.Machine

/-- Writing CMD latches CMD and ARG and sets BUSY <- 1 (R28, R130). -/
def latched (arg : BitVec 64) (cmd : CmdWord) (s : State) : State :=
  { s with port := { s.port with arg := arg, cmd := cmd, issued := true, busy := true, pending := none } }

/-- The host writes ARG, then CMD (R130). While BUSY = 1 the machine has no move for it (R300). -/
def hostIssue (arg : BitVec 64) (cmd : CmdWord) (s : State) : Out :=
  if s.port.busy then .refused .cmdWriteWhileBusy
  else .next (latched arg cmd s)

/-- Every register to its reset value (R320); the other agents and the bus history are untouched (R322). DEDUCED:
assumption 14. -/
def resetRegisters (s : State) : State := { State.reset with agents := s.agents }

/-- The host asserts reset; while BUSY = 1 the machine has no move for it (R320, R321). -/
def hostReset (s : State) : Out := if s.port.busy then .refused .resetWhileBusy else .next (resetRegisters s)

/-- What a host read gives: "read every register of 10_state.md while BUSY = 0" (R300). A register that nothing has
written since reset answers what State.reset put there, where R14 and R21 have a model fault: DESIGN CHOICE, assumption 1.
A register the variant lacks and a value not computed from the sample at hand fault (assumption 13). DESIGN CHOICE, the
refusal while BUSY = 1: assumption 7. -/
def hostRead (r : Reg) (s : State) : Host.Outcome Int Fault Refusal :=
  if s.port.busy then .refused (.readWhileBusy r)
  else if absentRegister r s then .fault (.readOfAbsentRegister r)
  else if uncomputedValue r s then .fault (.readOfUncomputedValue r)
  else .next (regValue r s)

/-- One host action. A read changes nothing; its value goes to the host (`hostRead`). -/
def hostMove (a : HostAction) (s : State) : Out :=
  match a with
  | .issue arg cmd => hostIssue arg cmd s
  | .reset => hostReset s
  | .read r =>
    match hostRead r s with
    | .next _ => .next s
    | .fault f => .fault f
    | .refused q => .refused q

/-- The next host action is used up. -/
def takeAction (rest : List HostAction) (s : State) : State := { s with agents := { s.agents with host := rest } }

/-- An idle engine: HOST moves. When HOST does nothing more, the run has ended and the machine rests (R139). -/
def idle (s : State) : Out :=
  match s.agents.host with
  | [] => .next s
  | a :: rest => hostMove a (takeAction rest s)

end Sys2Proof.Machine
end

