-- ==== Sys2Proof/Machine/Resume.lean ====
section
/-! DEFINITION. A waiting engine goes on with its command when BUS answers (R131, R301). -/

namespace Sys2Proof.Machine

/-- What the command does after ensure_fresh. -/
def finish : Reader → Bool → State → Out
  | .refresh => finishRefresh
  | .temp => finishTemp
  | .pres => finishPres
  | .hum => finishHum

/-- Go on from the open request: the same request again, now that BUS may have answered. Without an answer the
engine stays as it is. -/
def resume (p : Pending) (s : State) : Out :=
  match p with
  | .identity => readIdentity s
  | .calibration id => readCalibration id s
  | .humidityFirst id c => readHumidityFirst id c s
  | .humidityRest id c a => readHumidityRest id c a s
  | .control r => convert r (finish r) s
  | .burst r => readBurst r (finish r) s

end Sys2Proof.Machine
end

