-- ==== Sys2Proof/Machine/Step.lean ====
section
/-! DEFINITION. One step of the machine (R24, R130, R131): BUSY says whose move it is. -/

namespace Sys2Proof.Machine

/-- The next move. While BUSY = 0 HOST moves. While BUSY = 1 ENGINE executes the latched command word as one
transition to BUSY = 0, or, after it had to wait, goes on with its open request (R24, R131, R133, R301). DESIGN CHOICE:
assumption 6. -/
def step (s : State) : Host.Outcome State Fault Refusal :=
  match s.port.busy with
  | false => idle s
  | true =>
    match s.port.pending with
    | some p => resume p s
    | none =>
      match decode s.port.cmd with
      | .instr i => exec i s
      | .reservedFieldSet => illegalCommand s
      | .reservedOpcode => illegalCommand s

/-- The host has just written ARG and CMD: the next step executes the command word (R130). ARG holds the bits above
the 32 of CMD, 0 for a row of the table. DESIGN CHOICE: assumption 4. -/
def State.withFetchWord (s : State) (nbits w : Nat) : State :=
  latched (argOfTableWord nbits w) (cmdOfTableWord nbits w) s

end Sys2Proof.Machine
end

