-- ==== Sys2Proof/Machine/Reference.lean ====
section
/-! DEFINITION. The reference domain of R263 and the C reference it compares with: the same formulas in 32-bit and
64-bit two's-complement words. No command reads this file; R263's claim is stated over it. DEDUCED: assumption 12. -/

namespace Sys2Proof.Machine

/-- Every listed intermediate fits a signed word of n bits (R263). -/
def fitSigned (n : Nat) (vs : List Int) : Prop := ∀ v ∈ vs, -(2 ^ (n - 1) : Int) ≤ v ∧ v < (2 ^ (n - 1) : Int)

/-- The intermediates of R232, in its order. -/
def tfineSteps (adcT t1 t2 t3 : Int) : List Int :=
  let e := shr adcT 3 - shl t1 1
  let d := shr adcT 4 - t1
  [adcT, t1, t2, t3, shr adcT 3, shl t1 1, e, e * t2, tfineVar1 adcT t1 t2,
    shr adcT 4, d, d * d, shr (d * d) 12, shr (d * d) 12 * t3, tfineVar2 adcT t1 t3, tfine adcT t1 t2 t3]

/-- The intermediates of R234. -/
def tempSteps (tf : Int) : List Int := [tf, tf * 5, tf * 5 + 128, temp tf]

/-- The reference domain of the temperature (R263). -/
def InTemperatureDomain (adcT t1 t2 t3 : Int) : Prop :=
  fitSigned 32 (tfineSteps adcT t1 t2 t3 ++ tempSteps (tfine adcT t1 t2 t3))

/-- The intermediates of R235 up to the divisor. -/
def presDivisorSteps (tf p1 p2 p3 : Int) : List Int :=
  let v := tf - 128000
  [tf, p1, p2, p3, v, v * v, v * v * p3, shr (v * v * p3) 8, v * p2, shl (v * p2) 12, presVar1 tf p2 p3, shl 1 47,
    shl 1 47 + presVar1 tf p2 p3, (shl 1 47 + presVar1 tf p2 p3) * p1, presDivisor tf p1 p2 p3]

/-- The intermediates of R235 that build var2. -/
def presVar2Steps (tf p4 p5 p6 : Int) : List Int :=
  let v := tf - 128000
  [tf, p4, p5, p6, v, v * v, v * v * p6, v * p5, shl (v * p5) 17, v * v * p6 + shl (v * p5) 17, shl p4 35,
    presVar2 tf p4 p5 p6]

/-- The intermediates of R235 from the base pressure to the returned p. -/
def presTailSteps (adcP var2 divisor p7 p8 p9 : Int) : List Int :=
  let n := shl (1048576 - adcP) 31 - var2
  let p := presQuotient adcP var2 divisor
  let c := shr (p9 * shr p 13 * shr p 13) 25
  let e := shr (p8 * p) 19
  [adcP, p7, p8, p9, 1048576 - adcP, shl (1048576 - adcP) 31, n, n * 3125, p, shr p 13, p9 * shr p 13,
    p9 * shr p 13 * shr p 13, c, p8 * p, e, p + c, p + c + e, shr (p + c + e) 8, shl p7 4, presCorrected p p7 p8 p9]

/-- The reference domain of the pressure, with the fine temperature given: every intermediate fits s64 and the
returned p is in [0, 2^32) (R263). A zero divisor returns before the later intermediates exist. -/
def InPressureDomain (tf adcP p1 p2 p3 p4 p5 p6 p7 p8 p9 : Int) : Prop :=
  fitSigned 64 (presDivisorSteps tf p1 p2 p3 ++ presVar2Steps tf p4 p5 p6) ∧
    ∀ r, pres tf adcP p1 p2 p3 p4 p5 p6 p7 p8 p9 = some r →
      fitSigned 64 (presTailSteps adcP (presVar2 tf p4 p5 p6) (presDivisor tf p1 p2 p3) p7 p8 p9) ∧
        0 ≤ r ∧ r < 2 ^ 32

/-- The intermediates of R237 before the clamp. -/
def humSteps (tf adcH h1 h2 h3 h4 h5 h6 : Int) : List Int :=
  let x := tf - 76800
  let y := humA x adcH h4 h5 * humB x h2 h3 h6
  [tf, adcH, h1, h2, h3, h4, h5, h6, x, shl adcH 14, shl h4 20, shl adcH 14 - shl h4 20, h5 * x,
    shl adcH 14 - shl h4 20 - h5 * x, shl adcH 14 - shl h4 20 - h5 * x + 16384, humA x adcH h4 h5,
    x * h6, shr (x * h6) 10, x * h3, shr (x * h3) 11, shr (x * h3) 11 + 32768, humU x h3 h6, shr (humU x h3 h6) 10,
    shr (humU x h3 h6) 10 + 2097152, (shr (humU x h3 h6) 10 + 2097152) * h2,
    (shr (humU x h3 h6) 10 + 2097152) * h2 + 8192, humB x h2 h3 h6, y, shr y 15, shr y 15 * shr y 15,
    shr (shr y 15 * shr y 15) 7, shr (shr y 15 * shr y 15) 7 * h1, shr (shr (shr y 15 * shr y 15) 7 * h1) 4,
    humRaw tf adcH h1 h2 h3 h4 h5 h6]

/-- The reference domain of the humidity, with the fine temperature given (R263). -/
def InHumidityDomain (tf adcH h1 h2 h3 h4 h5 h6 : Int) : Prop :=
  fitSigned 32 (humSteps tf adcH h1 h2 h3 h4 h5 h6)

/-- The fine temperature in 32-bit words. -/
def refTfine (adcT t1 t2 t3 : BitVec 32) : BitVec 32 :=
  let var1 := ((adcT.sshiftRight 3 - t1 <<< 1) * t2).sshiftRight 11
  let d := adcT.sshiftRight 4 - t1
  let var2 := ((d * d).sshiftRight 12 * t3).sshiftRight 14
  var1 + var2

/-- The temperature in 32-bit words. -/
def refTemp (tf : BitVec 32) : BitVec 32 := (tf * 5#32 + 128#32).sshiftRight 8

/-- The pressure in 64-bit words, returned as an unsigned 32-bit word; none is the zero divisor. -/
def refPres (tf adcP p1 p2 p3 p4 p5 p6 p7 p8 p9 : BitVec 64) : Option (BitVec 32) :=
  let v := tf - 128000#64
  let var2 := v * v * p6 + (v * p5) <<< 17 + p4 <<< 35
  let w := (v * v * p3).sshiftRight 8 + (v * p2) <<< 12
  let var1 := ((1#64 <<< 47 + w) * p1).sshiftRight 33
  if var1 = 0#64 then none
  else
    let q := (((1048576#64 - adcP) <<< 31 - var2) * 3125#64).sdiv var1
    let c := (p9 * q.sshiftRight 13 * q.sshiftRight 13).sshiftRight 25
    let e := (p8 * q).sshiftRight 19
    some (((q + c + e).sshiftRight 8 + p7 <<< 4).setWidth 32)

/-- The humidity in 32-bit words. -/
def refHum (tf adcH h1 h2 h3 h4 h5 h6 : BitVec 32) : BitVec 32 :=
  let x := tf - 76800#32
  let a := (adcH <<< 14 - h4 <<< 20 - h5 * x + 16384#32).sshiftRight 15
  let u := (x * h6).sshiftRight 10 * ((x * h3).sshiftRight 11 + 32768#32)
  let b := ((u.sshiftRight 10 + 2097152#32) * h2 + 8192#32).sshiftRight 14
  let y := a * b
  let z := y - ((y.sshiftRight 15 * y.sshiftRight 15).sshiftRight 7 * h1).sshiftRight 4
  let lo := if z.slt 0#32 then 0#32 else z
  let hi := if (419430400#32).slt lo then 419430400#32 else lo
  hi.sshiftRight 12

end Sys2Proof.Machine
end

