-- ==== Sys2Proof/Safety.lean ====
section
/-! DEFINITION. What a sound state and a sound run are: the invariants the spec states over every command, in the
terms the claims use. -/

namespace Sys2Proof

open Machine

/-- The commands that call ensure_fresh (R193): REFRESH and READ_*. -/
def Instr.reader? : Instr → Option Reader
  | .nop => none
  | .init => none
  | .setInterval => none
  | .refresh => some .refresh
  | .readTemp => some .temp
  | .readPres => some .pres
  | .readHum => some .hum

end Sys2Proof

namespace Sys2Proof.Machine

/-- The cache invariant of R43, its six implications in its order. -/
abbrev CacheInvariant (s : State) : Prop :=
  (s.cache.tfineValid = true → s.cache.sampleValid = true) ∧
  ((s.cache.tValid = true ∨ s.cache.pValid = true ∨ s.cache.hValid = true) → s.cache.tfineValid = true) ∧
  (s.cache.hValid = true → s.port.variant = .tph) ∧
  (s.cache.sampleValid = true → s.store.calibValid = true) ∧
  (s.cache.pUndef = true → s.cache.pValid = true) ∧
  (s.store.calibValid = true ↔ s.port.state = .ready)

/-- VARIANT is TP or TPH in READY and NONE before INIT has succeeded (R25, R26, R155). -/
abbrev VariantInvariant (s : State) : Prop := s.port.state = .ready ↔ s.port.variant ≠ .none

/-- What an open request says of the waiting command (R24, R301): the state checks before it have passed. -/
def Pending.lawful (p : Pending) (s : State) : Bool :=
  match p with
  | .identity => s.port.state == .uninit
  | .calibration id => s.port.state == .uninit && variantOf id != .none
  | .humidityFirst id _ => s.port.state == .uninit && variantOf id == .tph
  | .humidityRest id _ _ => s.port.state == .uninit && variantOf id == .tph
  | .control r => s.port.state == .ready && (r != .hum || s.port.variant == .tph)
  | .burst r => s.port.state == .ready && (r != .hum || s.port.variant == .tph)

/-- An engine with an open request is busy, and the request is one its command can have reached (R28, R301). -/
abbrev PendingInvariant (s : State) : Prop :=
  ∀ p, s.port.pending = some p → s.port.busy = true ∧ p.lawful s = true

/-- The invariants of the control state, together. -/
def EngineInvariant (s : State) : Prop := CacheInvariant s ∧ VariantInvariant s ∧ PendingInvariant s

/-- Every cached value whose valid bit is 1 is the value of the current sample and coefficients, and the outputs all
use the one fine temperature (R41, R42, R45, R255, R261). -/
def CacheCoherent (s : State) : Prop :=
  (s.cache.tfineValid = true → s.cache.tFine = tFineReg s.cache.adcT s.store.tp) ∧
  (s.cache.tValid = true → s.cache.tOut = tOutReg s.cache.tFine) ∧
  (s.cache.pValid = true → (s.cache.pOut, s.cache.pUndef) = pOutReg s.cache.tFine s.cache.adcP s.store.tp) ∧
  (s.cache.hValid = true → s.cache.hOut = hOutReg s.cache.tFine s.cache.adcH s.store.hum)

/-- The MemReads the engine can issue: offset and length (R63). -/
def readTransactions : List (Byte × Nat) := [(0xD0, 1), (0x88, 24), (0xA1, 1), (0xE1, 7), (0xF7, 6), (0xF7, 8)]

/-- An event is one of the transactions of R63, to DEV_ADDR, and its answer has the form of R72. -/
def BusEvent.lawful (e : BusEvent) : Prop :=
  match e with
  | .read dev off n answer =>
    dev = Config.params.devAddr ∧ (off, n) ∈ readTransactions ∧ ∀ bs, answer = some bs → bs.length = n
  | .write dev off bytes _ => dev = Config.params.devAddr ∧ off = 0xF4 ∧ bytes = [Config.params.ctrlMeasValue]
  | .wait ms => ms = Config.params.settleDelay

/-- Every event of the bus history is lawful (R63, R70, R99). -/
def HistoryLawful (s : State) : Prop := ∀ e ∈ s.agents.history, e.lawful

/-- The cached sample is fresh for `now` (R194): the difference is an exact integer. -/
abbrev SampleFresh (now : BitVec 64) (s : State) : Prop :=
  s.cache.sampleValid = true ∧ (now.toNat : Int) - (s.cache.lastTs.toNat : Int) ≤ (s.interval.toNat : Int)

/-- The events of a successful conversion sequence (R196). -/
def conversionEvents (v : Variant) (b : List Byte) : List BusEvent :=
  [controlEvent true, settleEvent, readEvent 0xF7 (burstLength v) (some b)]

/-- The state a successful conversion leaves, `b` being the burst and `rest` the answers BUS has still to give
(R193, R201, R202, R203). -/
def afterConversion (b : List Byte) (rest : List BusAnswer) (s : State) : State :=
  { s with
    cache :=
      { s.cache with
        sampleValid := true
        adcP := burstP b
        adcT := burstT b
        adcH := if s.port.variant = .tph then burstH b else s.cache.adcH
        lastTs := s.port.arg
        tfineValid := false
        tValid := false
        pValid := false
        pUndef := false
        hValid := false }
    agents := { s.agents with bus := rest, history := s.agents.history ++ conversionEvents s.port.variant b } }

/-- ensure_fresh(ARG) succeeds in s and leaves u: the sample was fresh, or BUS answers a whole conversion (R193). -/
def SampleObtained (s u : State) : Prop :=
  (SampleFresh s.port.arg s ∧ u = s) ∨
    (¬SampleFresh s.port.arg s ∧ ∃ b rest, s.agents.bus = .ok :: .bytes b :: rest ∧
      b.length = burstLength s.port.variant ∧ u = afterConversion b rest s)

/-- The port after a command that completes with a code and the value in `result` (R16, R132). -/
def Port.completed (c : Completion) (result : BitVec 128) (q : Port) : Port :=
  { q with completion := c, result := result, busy := false, pending := none }

/-- What a command that ends with code c and writes nothing else leaves (R16, R136), with the bus as `rest` and
`events` added to the history. -/
def endedWith (c : Completion) (rest : List BusAnswer) (events : List BusEvent) (s : State) : State :=
  { s with
    port := s.port.completed c s.port.result
    agents := { s.agents with bus := rest, history := s.agents.history ++ events } }

/-- The same state with other answers to come from BUS. -/
def withBus (answers : List BusAnswer) (s : State) : State := { s with agents := { s.agents with bus := answers } }

/-- The same state with another COMPLETION and RESULT. -/
def withCodes (c : Completion) (v : BitVec 128) (s : State) : State :=
  { s with port := { s.port with completion := c, result := v } }

/-- The outcomes `o` of a command in s and `o'` of the same command in `withCodes c v s` are the same (R138). A command
that completes writes the same COMPLETION in both, and either writes the same RESULT in both or leaves RESULT as each
found it. A command that waits leaves both codes as each found them. All else is equal. -/
def SameButEarlierCodes (s : State) (c : Completion) (v : BitVec 128) (o o' : Out) : Prop :=
  match o, o' with
  | .next t, .next u =>
    u = withCodes u.port.completion u.port.result t ∧
      (t.port.busy = false → u.port.completion = t.port.completion ∧
        (u.port.result = t.port.result ∨ (u.port.result = v ∧ t.port.result = s.port.result))) ∧
      (t.port.busy = true → u.port.completion = c ∧ u.port.result = v ∧
        t.port.completion = s.port.completion ∧ t.port.result = s.port.result)
  | .fault f, .fault g => f = g
  | .refused q, .refused p => q = p
  | .next _, .fault _ => False
  | .next _, .refused _ => False
  | .fault _, .next _ => False
  | .fault _, .refused _ => False
  | .refused _, .next _ => False
  | .refused _, .fault _ => False

/-- A busy engine has CMD and ARG from the host (R28, R130). -/
abbrev LatchedIsIssued (s : State) : Prop := s.port.busy = true → s.port.issued = true

/-- `mine` where the register holds a value in s, and `other` where it holds none (R21). -/
def keepHeld {α : Type} (s : State) (r : Reg) (mine other : α) : α := if holdsValue r s then mine else other

/-- The state s with the contents of x in every register that holds no value in s (R21). -/
def withNoValues (x s : State) : State :=
  { s with
    port := { s.port with
      chipId := keepHeld s .chipId s.port.chipId x.port.chipId
      cmd := keepHeld s .cmd s.port.cmd x.port.cmd
      arg := keepHeld s .arg s.port.arg x.port.arg }
    store := { s.store with
      tp := keepHeld s .t1 s.store.tp x.store.tp
      hum := keepHeld s .h1 s.store.hum x.store.hum }
    cache := { s.cache with
      adcP := keepHeld s .adcP s.cache.adcP x.cache.adcP
      adcT := keepHeld s .adcT s.cache.adcT x.cache.adcT
      adcH := keepHeld s .adcH s.cache.adcH x.cache.adcH
      lastTs := keepHeld s .lastTs s.cache.lastTs x.cache.lastTs
      tFine := keepHeld s .tFine s.cache.tFine x.cache.tFine
      tOut := keepHeld s .tOut s.cache.tOut x.cache.tOut
      pOut := keepHeld s .pOut s.cache.pOut x.cache.pOut
      hOut := keepHeld s .hOut s.cache.hOut x.cache.hOut } }

/-- The outcome with its next state changed by f; a fault and a refusal stay as they are. -/
def onNext (f : State → State) (o : Out) : Out :=
  match o with
  | .next t => .next (f t)
  | .fault e => .fault e
  | .refused q => .refused q

/-- An event that `CommErr` answered. -/
def BusEvent.failed : BusEvent → Bool
  | .read _ _ _ none => true
  | .read _ _ _ (some _) => false
  | .write _ _ _ ok => !ok
  | .wait _ => false

/-- HOST does not assert reset next. -/
abbrev NoResetNext (s : State) : Prop := s.port.busy = false → s.agents.host.head? ≠ some .reset

end Sys2Proof.Machine
end

