-- ==== Sys2Proof/Certificates/Slice0/Obligations.lean ====
section
/-! DEFINITION. The statements for the provers. Each docstring names the rules it formalises. -/

open Sys2Proof Sys2Proof.Machine

/-! ### Encoding (30_encoding.md, 40_command_protocol.md) -/

/-- R92: the seven words of the opcode map, written out. -/
def Obligations.OpcodeMapWordsDecode : Prop :=
  decode 0x00000000 = .instr .nop ∧ decode 0x00000001 = .instr .init ∧ decode 0x00000002 = .instr .setInterval ∧
    decode 0x00000003 = .instr .refresh ∧ decode 0x00000004 = .instr .readTemp ∧
    decode 0x00000005 = .instr .readPres ∧ decode 0x00000006 = .instr .readHum

/-- R92: a word selects a row exactly when all its 32 bits are the row's, and the encoder writes that word. -/
def Obligations.EveryWordSelectsAtMostItsRow : Prop :=
  ∀ (w : CmdWord) (i : Instr),
    (decode w = .instr i ↔
      w &&& 0xFFFFFFFF#32 =
        match i with
        | .nop => 0x00000000#32
        | .init => 0x00000001#32
        | .setInterval => 0x00000002#32
        | .refresh => 0x00000003#32
        | .readTemp => 0x00000004#32
        | .readPres => 0x00000005#32
        | .readHum => 0x00000006#32) ∧
    (decode w = .instr i ↔ w = encode i)

/-- R93, R133: a word is illegal exactly when RSV ≠ 0 or OP > 0x06; executed, it writes ILLEGAL_COMMAND and nothing
else, in every STATE, with no bus event. -/
def Obligations.IllegalWordWritesOnlyItsCode : Prop :=
  ∀ s : State, s.port.busy = true → s.port.pending = none →
    ((s.port.cmd.extractLsb' 8 24 ≠ 0#24 ∨ 0x06 < (s.port.cmd.extractLsb' 0 8).toNat) ↔
      ∀ i, decode s.port.cmd ≠ .instr i) ∧
    ((s.port.cmd.extractLsb' 8 24 ≠ 0#24 ∨ 0x06 < (s.port.cmd.extractLsb' 0 8).toNat) →
      step s = .next { s with port := s.port.completed .illegalCommand s.port.result })

/-- R24, R131: a busy engine with no open request executes the decoded command in one step. -/
def Obligations.StepRunsTheLatchedCommand : Prop :=
  ∀ (s : State) (i : Instr), s.port.busy = true → s.port.pending = none → decode s.port.cmd = .instr i →
    step s = exec i s

/-- R130, R131, R133: from an idle engine, the host's write of any ARG and any 32-bit CMD latches both, and the next step
executes the instruction that CMD decodes to on them, or completes ILLEGAL_COMMAND where it decodes to none. The host's
list of actions and the granularity of a step are the model's: log entries 2 and 6. -/
def Obligations.IssuedCommandIsExecutedWithItsArg : Prop :=
  ∀ (s : State) (arg : BitVec 64) (cmd : CmdWord) (rest : List HostAction), s.port.busy = false →
    s.agents.host = .issue arg cmd :: rest →
    ∃ t, step s = .next t ∧ t = latched arg cmd (takeAction rest s) ∧
      t.port.arg = arg ∧ t.port.cmd = cmd ∧ t.port.busy = true ∧
      (∀ i, decode cmd = .instr i → step t = exec i t) ∧
      ((∀ i, decode cmd ≠ .instr i) →
        step t = .next { t with port := t.port.completed .illegalCommand t.port.result })

/-! ### Decoding the sensor's bytes (41_calibration_decoder.md, 42_sample_cache.md) -/

/-- R154: the identity decode, all eight bits compared. -/
def Obligations.IdentitySelectsVariant : Prop :=
  ∀ id : Byte, (variantOf id = .tp ↔ id.toNat = 0x58) ∧ (variantOf id = .tph ↔ id.toNat = 0x60) ∧
    (variantOf id = .none ↔ id.toNat ≠ 0x58 ∧ id.toNat ≠ 0x60)

/-- R158: every coefficient of decode_tp, by its two bytes. -/
def Obligations.TpCoefficientsLittleEndian : Prop :=
  ∀ c : List Byte, c.length = 24 →
    let u := fun i => (byteAt c i).toNat + 256 * (byteAt c (i + 1)).toNat
    let v := fun i => if u i < 32768 then (u i : Int) else (u i : Int) - 65536
    let d := decodeTp c
    d.t1.toNat = u 0 ∧ d.t2.toInt = v 2 ∧ d.t3.toInt = v 4 ∧ d.p1.toNat = u 6 ∧ d.p2.toInt = v 8 ∧
      d.p3.toInt = v 10 ∧ d.p4.toInt = v 12 ∧ d.p5.toInt = v 14 ∧ d.p6.toInt = v 16 ∧ d.p7.toInt = v 18 ∧
      d.p8.toInt = v 20 ∧ d.p9.toInt = v 22

/-- R160, R161, R162, R166 and R165's first form of R163 and R164: every humidity coefficient as an integer. -/
def Obligations.HumidityCoefficientValues : Prop :=
  ∀ (a : Byte) (e : List Byte), e.length = 7 →
    let u := (byteAt e 0).toNat + 256 * (byteAt e 1).toNat
    let d := decodeH a e
    d.h1.toInt = a.toInt ∧ d.h2.toInt = (if u < 32768 then (u : Int) else (u : Int) - 65536) ∧
      d.h3.toInt = (byteAt e 2).toInt ∧
      d.h4.toInt = 16 * (byteAt e 3).toInt + ((byteAt e 4).toNat % 16 : Nat) ∧
      d.h5.toInt = 16 * (byteAt e 5).toInt + ((byteAt e 4).toNat / 16 : Nat) ∧
      d.h6.toInt = (byteAt e 6).toInt

/-- R102: the shift-and-OR decode of H4 and H5 is the 12-bit concatenation. -/
def Obligations.H4H5AreConcatenations : Prop :=
  ∀ e3 e4 e5 : Byte, decodeH4 e3 e4 = e3 ++ e4.extractLsb' 0 4 ∧ decodeH5 e5 e4 = e5 ++ e4.extractLsb' 4 4

/-- R167: pack_h45 gives back every byte triple, and its bytes decode to every pair of s12 values. -/
def Obligations.PackH45RoundTrips : Prop :=
  (∀ e3 e4 e5 : Byte, packH45 (decodeH4 e3 e4) (decodeH5 e5 e4) = (e3, e4, e5)) ∧
    ∀ h4 h5 : BitVec 12,
      decodeH4 (packH45 h4 h5).1 (packH45 h4 h5).2.1 = h4 ∧ decodeH5 (packH45 h4 h5).2.2 (packH45 h4 h5).2.1 = h5

/-- R198, R104: the three counts of a burst as integers; bits 3:0 of b[2] and b[5] reach none of them. -/
def Obligations.BurstUnpackValues : Prop :=
  ∀ b : List Byte,
    (6 ≤ b.length → (burstP b).toNat = (byteAt b 0).toNat * 4096 + (byteAt b 1).toNat * 16 + (byteAt b 2).toNat / 16 ∧
      (burstT b).toNat = (byteAt b 3).toNat * 4096 + (byteAt b 4).toNat * 16 + (byteAt b 5).toNat / 16) ∧
    (b.length = 8 → (burstH b).toNat = (byteAt b 6).toNat * 256 + (byteAt b 7).toNat)

/-! ### The compensation formulas (43_compensation.md) -/

/-- R262, the rows of tfine, temp, T_FINE and T_OUT: every intermediate, for every count and coefficient. -/
def Obligations.TemperatureDatapathWidths : Prop :=
  ∀ (adcT : BitVec 20) (c : TpCoeffs),
    (∀ v ∈ tfineSteps adcT.toNat c.t1.toNat c.t2.toInt c.t3.toInt ++ tempSteps (tfineOf adcT c), |v| < 2 ^ 35) ∧
      -4194224 ≤ tfineOf adcT c ∧ tfineOf adcT c ≤ 4194144 ∧
      -81918 ≤ temp (tfineOf adcT c) ∧ temp (tfineOf adcT c) ≤ 81917

/-- R262, the rows of pres and P_OUT, for every content of T_FINE, every count and every coefficient. -/
def Obligations.PressureDatapathWidths : Prop :=
  ∀ (tf : BitVec 23) (adcP : BitVec 20) (c : TpCoeffs),
    let var2 := presVar2 tf.toInt c.p4.toInt c.p5.toInt c.p6.toInt
    let divisor := presDivisor tf.toInt c.p1.toNat c.p2.toInt c.p3.toInt
    (∀ v ∈ presDivisorSteps tf.toInt c.p1.toNat c.p2.toInt c.p3.toInt ++
        presVar2Steps tf.toInt c.p4.toInt c.p5.toInt c.p6.toInt, |v| < 2 ^ 131) ∧
      ∀ r, presOf tf adcP c = some r →
        (∀ v ∈ presTailSteps adcP.toNat var2 divisor c.p7.toInt c.p8.toInt c.p9.toInt, |v| < 2 ^ 131) ∧ |r| < 2 ^ 98

/-- R262, the rows of hum and H_OUT, for every content of T_FINE, every count and every coefficient. -/
def Obligations.HumidityDatapathWidths : Prop :=
  ∀ (tf : BitVec 23) (adcH : BitVec 16) (c : HumCoeffs),
    (∀ v ∈ humSteps tf.toInt adcH.toNat c.h1.toInt c.h2.toInt c.h3.toInt c.h4.toInt c.h5.toInt c.h6.toInt,
      |v| < 2 ^ 64) ∧ 0 ≤ humOf tf adcH c ∧ humOf tf adcH c ≤ 102400

/-- R262: the registers of R23 hold every result exactly; nothing is cut off. -/
def Obligations.OutputRegistersHoldExactResults : Prop :=
  (∀ (adcT : BitVec 20) (c : TpCoeffs), (tFineReg adcT c).toInt = tfineOf adcT c) ∧
    (∀ tf : BitVec 23, (tOutReg tf).toInt = temp tf.toInt) ∧
    (∀ (tf : BitVec 23) (adcP : BitVec 20) (c : TpCoeffs) (r : Int), presOf tf adcP c = some r →
      (pOutReg tf adcP c).1.toInt = r ∧ (pOutReg tf adcP c).2 = false) ∧
    ∀ (tf : BitVec 23) (adcH : BitVec 16) (c : HumCoeffs), ((hOutReg tf adcH c).toNat : Int) = humOf tf adcH c

/-- R238: the humidity is clamped for every integer input. -/
def Obligations.HumidityAlwaysClamped : Prop :=
  ∀ tf adcH h1 h2 h3 h4 h5 h6 : Int, 0 ≤ hum tf adcH h1 h2 h3 h4 h5 h6 ∧ hum tf adcH h1 h2 h3 h4 h5 h6 ≤ 102400

/-- R236: UNDEF exactly when the P1-derived term is 0, which is exactly when the shifted product is in [0, 2^33), and
in particular whenever P1 = 0. -/
def Obligations.PressureUndefinedExactlyAtZeroDivisor : Prop :=
  ∀ tf adcP p1 p2 p3 p4 p5 p6 p7 p8 p9 : Int,
    (pres tf adcP p1 p2 p3 p4 p5 p6 p7 p8 p9 = none ↔ presDivisor tf p1 p2 p3 = 0) ∧
      (presDivisor tf p1 p2 p3 = 0 ↔
        0 ≤ (2 ^ 47 + presVar1 tf p2 p3) * p1 ∧ (2 ^ 47 + presVar1 tf p2 p3) * p1 < 2 ^ 33) ∧
      (p1 = 0 → pres tf adcP p1 p2 p3 p4 p5 p6 p7 p8 p9 = none)

/-- R263, temperature: inside the reference domain the engine's fine temperature and temperature are those of the
32-bit reference, bit for bit. The reference's text and its domain are written out from R263 and GK7: DEDUCED, log
entry 12. -/
def Obligations.TemperatureEqualsReferenceInDomain : Prop :=
  ∀ (adcT : BitVec 20) (c : TpCoeffs),
    InTemperatureDomain adcT.toNat c.t1.toNat c.t2.toInt c.t3.toInt →
    let ref := refTfine (adcT.setWidth 32) (c.t1.setWidth 32) (c.t2.signExtend 32) (c.t3.signExtend 32)
    ref.toInt = tfineOf adcT c ∧ (refTemp ref).toInt = temp (tfineOf adcT c)

/-- R263, pressure: inside the reference domain the engine's pressure is the 64-bit reference's, bit for bit, and the
two report the zero divisor together. The reference's text and its domain are written out from R263 and GK7: DEDUCED, log
entry 12. -/
def Obligations.PressureEqualsReferenceInDomain : Prop :=
  ∀ (tf : BitVec 23) (adcP : BitVec 20) (c : TpCoeffs),
    InPressureDomain tf.toInt adcP.toNat c.p1.toNat c.p2.toInt c.p3.toInt c.p4.toInt c.p5.toInt c.p6.toInt
      c.p7.toInt c.p8.toInt c.p9.toInt →
    (refPres (tf.signExtend 64) (adcP.setWidth 64) (c.p1.setWidth 64) (c.p2.signExtend 64) (c.p3.signExtend 64)
      (c.p4.signExtend 64) (c.p5.signExtend 64) (c.p6.signExtend 64) (c.p7.signExtend 64) (c.p8.signExtend 64)
      (c.p9.signExtend 64)).map (fun p => (p.toNat : Int)) = presOf tf adcP c

/-- R263, humidity: inside the reference domain the engine's humidity is the 32-bit reference's, bit for bit. The
reference's text and its domain are written out from R263 and GK7: DEDUCED, log entry 12. -/
def Obligations.HumidityEqualsReferenceInDomain : Prop :=
  ∀ (tf : BitVec 23) (adcH : BitVec 16) (c : HumCoeffs),
    InHumidityDomain tf.toInt adcH.toNat c.h1.toInt c.h2.toInt c.h3.toInt c.h4.toInt c.h5.toInt c.h6.toInt →
    (refHum (tf.signExtend 32) (adcH.setWidth 32) (c.h1.signExtend 32) (c.h2.signExtend 32) (c.h3.signExtend 32)
      (c.h4.signExtend 32) (c.h5.signExtend 32) (c.h6.signExtend 32)).toInt = humOf tf adcH c

/-! ### NOP, SET_INTERVAL, INIT -/

/-- R135: the word 0x00000000 is NOP, which completes OK in every state and changes nothing but COMPLETION, and BUSY
around the command. -/
def Obligations.NopOnlyCompletes : Prop :=
  decode 0x00000000 = .instr .nop ∧ ∀ s : State, exec .nop s = .next { s with port := s.port.completed .ok s.port.result }

/-- R190: the word 0x00000002 is SET_INTERVAL, which writes ARG to INTERVAL and, zero-extended, to RESULT, completes OK
in every STATE, and does nothing else. -/
def Obligations.SetIntervalStoresArg : Prop :=
  decode 0x00000002 = .instr .setInterval ∧ ∀ s : State, exec .setInterval s =
    .next { s with interval := s.port.arg, port := s.port.completed .ok (s.port.arg.setWidth 128) }

/-- R151, R156, R157: INIT on a TP device whose two reads succeed. -/
def Obligations.InitLoadsTpDevice : Prop :=
  ∀ (s : State) (c : List Byte) (rest : List BusAnswer), s.port.state = .uninit → c.length = 24 →
    s.agents.bus = .bytes [0x58] :: .bytes c :: rest →
    exec .init s = .next
      { s with
        port := { s.port.completed .ok 0x58 with state := .ready, variant := .tp, chipId := 0x58 }
        store := { s.store with calibValid := true, tp := decodeTp c }
        agents := { s.agents with
          bus := rest
          history := s.agents.history ++ [readEvent 0xD0 1 (some [0x58]), readEvent 0x88 24 (some c)] } }

/-- R151, R156, R157: INIT on a TPH device whose four reads succeed. -/
def Obligations.InitLoadsTphDevice : Prop :=
  ∀ (s : State) (c e : List Byte) (a : Byte) (rest : List BusAnswer), s.port.state = .uninit → c.length = 24 →
    e.length = 7 → s.agents.bus = .bytes [0x60] :: .bytes c :: .bytes [a] :: .bytes e :: rest →
    exec .init s = .next
      { s with
        port := { s.port.completed .ok 0x60 with state := .ready, variant := .tph, chipId := 0x60 }
        store := { calibValid := true, tp := decodeTp c, hum := decodeH a e }
        agents := { s.agents with
          bus := rest
          history := s.agents.history ++ [readEvent 0xD0 1 (some [0x60]), readEvent 0x88 24 (some c),
            readEvent 0xA1 1 (some [a]), readEvent 0xE1 7 (some e)] } }

/-- R155: an unrecognized identity writes CHIP_ID and STATE <- FAILED, and no calibration read is issued; VARIANT stays
NONE and CALIB_VALID stays 0. -/
def Obligations.InitFailsOnUnrecognizedDevice : Prop :=
  ∀ (s : State) (id : Byte) (rest : List BusAnswer), s.port.state = .uninit → variantOf id = .none →
    s.agents.bus = .bytes [id] :: rest →
    exec .init s = .next
      { s with
        port := { s.port.completed .unrecognizedDevice s.port.result with state := .failed, chipId := id }
        agents := { s.agents with bus := rest, history := s.agents.history ++ [readEvent 0xD0 1 (some [id])] } } ∧
    (EngineInvariant s → s.port.variant = .none ∧ s.store.calibValid = false)

/-- R152, R157: whichever of INIT's reads `CommErr` answers, only COMPLETION is written, and the failing event is the
last. -/
def Obligations.InitCommErrWritesOnlyCompletion : Prop :=
  ∀ (s : State) (id a : Byte) (c : List Byte) (rest : List BusAnswer), s.port.state = .uninit → c.length = 24 →
    (s.agents.bus = .commErr :: rest →
      exec .init s = .next (endedWith .communicationError rest [readEvent 0xD0 1 none] s)) ∧
    (variantOf id ≠ .none → s.agents.bus = .bytes [id] :: .commErr :: rest →
      exec .init s = .next (endedWith .communicationError rest
        [readEvent 0xD0 1 (some [id]), readEvent 0x88 24 none] s)) ∧
    (variantOf id = .tph → s.agents.bus = .bytes [id] :: .bytes c :: .commErr :: rest →
      exec .init s = .next (endedWith .communicationError rest
        [readEvent 0xD0 1 (some [id]), readEvent 0x88 24 (some c), readEvent 0xA1 1 none] s)) ∧
    (variantOf id = .tph → s.agents.bus = .bytes [id] :: .bytes c :: .bytes [a] :: .commErr :: rest →
      exec .init s = .next (endedWith .communicationError rest
        [readEvent 0xD0 1 (some [id]), readEvent 0x88 24 (some c), readEvent 0xA1 1 (some [a]),
          readEvent 0xE1 7 none] s))

/-- R153: INIT in READY and in FAILED writes only its code, with no bus event, and only reset leaves FAILED. -/
def Obligations.InitRejectedAndFailedIsFinal : Prop :=
  (∀ s : State, s.port.state = .ready →
    exec .init s = .next { s with port := s.port.completed .alreadyInitialized s.port.result }) ∧
  (∀ s : State, s.port.state = .failed →
    exec .init s = .next { s with port := s.port.completed .notReady s.port.result }) ∧
  ∀ s t : State, EngineInvariant s → NoResetNext s → s.port.state = .failed → step s = .next t →
    t.port.state = .failed

/-! ### The Sample Cache (42_sample_cache.md) -/

/-- R194, R195: a command that calls ensure_fresh on a fresh sample issues no bus event and leaves the sample, its
timestamp and INTERVAL alone. -/
def Obligations.FreshSampleCausesNoBusActivity : Prop :=
  ∀ (i : Instr) (r : Reader) (s t : State), i.reader? = some r → SampleFresh s.port.arg s → exec i s = .next t →
    t.agents = s.agents ∧ t.cache.sampleValid = s.cache.sampleValid ∧ t.cache.adcP = s.cache.adcP ∧
      t.cache.adcT = s.cache.adcT ∧ t.cache.adcH = s.cache.adcH ∧ t.cache.lastTs = s.cache.lastTs ∧
      t.interval = s.interval

/-- R192, R193, R195, R196, R201, R202, R203: REFRESH on a fresh sample completes OK with RESULT = 0 and changes nothing
else; on a stale sample whose conversion succeeds it completes OK with RESULT = 1, loads the sample with LAST_TS = ARG,
and clears every derived valid bit, keeping the old derived values. -/
def Obligations.RefreshReusesOrLoadsTheSample : Prop :=
  ∀ s : State, s.port.state = .ready →
    (SampleFresh s.port.arg s → exec .refresh s = .next { s with port := s.port.completed .ok 0 }) ∧
    ∀ (b : List Byte) (rest : List BusAnswer), ¬SampleFresh s.port.arg s → s.agents.bus = .ok :: .bytes b :: rest →
      b.length = burstLength s.port.variant →
      exec .refresh s = .next
        { s with
          port := s.port.completed .ok 1
          cache := { s.cache with
            sampleValid := true
            adcP := burstP b
            adcT := burstT b
            adcH := if s.port.variant = .tph then burstH b else s.cache.adcH
            lastTs := s.port.arg
            tfineValid := false
            tValid := false
            pValid := false
            pUndef := false
            hValid := false }
          agents := { s.agents with
            bus := rest
            history := s.agents.history ++ [controlEvent true, settleEvent,
              readEvent 0xF7 (burstLength s.port.variant) (some b)] } }

/-- R200: a failed control write or burst read of any command that refreshes writes only COMPLETION; the Wait and the
burst follow only a control write that answered `ok`. -/
def Obligations.FailedRefreshKeepsTheCache : Prop :=
  ∀ (i : Instr) (r : Reader) (s : State) (rest : List BusAnswer), i.reader? = some r → s.port.state = .ready →
    (r = .hum → s.port.variant = .tph) → ¬SampleFresh s.port.arg s →
    (s.agents.bus = .commErr :: rest →
      exec i s = .next (endedWith .communicationError rest [controlEvent false] s)) ∧
    (s.agents.bus = .ok :: .commErr :: rest →
      exec i s = .next (endedWith .communicationError rest
        [controlEvent true, settleEvent, readEvent 0xF7 (burstLength s.port.variant) none] s))

/-- R205(a): after a command that converted, a command whose `now` is 0 to INTERVAL later issues no bus event. -/
def Obligations.NoSecondConversionWithinInterval : Prop :=
  ∀ (i j : Instr) (r q : Reader) (s t v : State) (arg : BitVec 64), i.reader? = some r → j.reader? = some q →
    exec i s = .next t → t.port.busy = false → t.port.completion.isError = false →
    t.agents.history ≠ s.agents.history →
    s.port.arg.toNat ≤ arg.toNat → arg.toNat - s.port.arg.toNat ≤ t.interval.toNat →
    exec j (latched arg (encode j) t) = .next v → v.agents = t.agents

/-- R205(b): a stale command that comes to its end has issued exactly one control write, and the burst read exactly
when that was answered `ok`. -/
def Obligations.StaleCommandConvertsExactlyOnce : Prop :=
  ∀ (i : Instr) (r : Reader) (s t : State), i.reader? = some r → s.port.state = .ready →
    (r = .hum → s.port.variant = .tph) → ¬SampleFresh s.port.arg s → exec i s = .next t → t.port.busy = false →
    t.agents.history = s.agents.history ++ [controlEvent false] ∨
      ∃ answer, t.agents.history = s.agents.history ++
        [controlEvent true, settleEvent, readEvent 0xF7 (burstLength s.port.variant) answer]

/-- R191, R206: the corners of the staleness test, seen through REFRESH: an empty cache asks BUS for a conversion
whatever `now` is; a clock that went back, an age of exactly INTERVAL and, at INTERVAL = 2^64 - 1, every `now` reuse
the sample; one ms past INTERVAL asks BUS. The state of an engine that has asked BUS and waits is the model's: DESIGN
CHOICE, log entry 3. -/
def Obligations.StalenessCorners : Prop :=
  ∀ s : State, s.port.state = .ready → s.agents.bus = [] →
    let reuses := exec .refresh s = .next { s with port := s.port.completed .ok 0 }
    let converts := exec .refresh s =
      .next { s with port := { s.port with busy := true, pending := some (.control .refresh) } }
    (s.cache.sampleValid = false → converts) ∧
      (s.cache.sampleValid = true → s.port.arg.toNat < s.cache.lastTs.toNat → reuses) ∧
      (s.cache.sampleValid = true → s.port.arg.toNat = s.cache.lastTs.toNat + s.interval.toNat → reuses) ∧
      (s.cache.sampleValid = true → s.port.arg.toNat = s.cache.lastTs.toNat + s.interval.toNat + 1 → converts) ∧
      (s.cache.sampleValid = true → s.interval.toNat = 2 ^ 64 - 1 → reuses)

/-! ### The accessors (43_compensation.md) -/

/-- R240, R232 to R234: READ_TEMP computes T_OUT from the one fine temperature of the sample, which is T_FINE where
that is valid and is computed from ADC_T and T1..T3 where it is not. -/
def Obligations.ReadTempComputesTemperature : Prop :=
  ∀ s u : State, s.port.state = .ready → SampleObtained s u → u.cache.tValid = false →
    ∃ t, exec .readTemp s = .next t ∧
      t.port = s.port.completed .ok t.port.result ∧ t.port.result.toInt = temp t.cache.tFine.toInt ∧
      t.cache = { u.cache with tFine := t.cache.tFine, tfineValid := true, tOut := t.cache.tOut, tValid := true } ∧
      t.cache.tOut.toInt = temp t.cache.tFine.toInt ∧
      (u.cache.tfineValid = true → t.cache.tFine = u.cache.tFine) ∧
      (u.cache.tfineValid = false → t.cache.tFine.toInt = tfineOf u.cache.adcT s.store.tp) ∧
      t.interval = s.interval ∧ t.store = s.store ∧ t.agents = u.agents

/-- R244, R245, R235: READ_PRES computes P_OUT from the one fine temperature of the sample: the exact pressure with OK,
or the sentinel, P_OUT = 0, P_UNDEF = 1 and RESULT = 0 with UNDEFINED_RESULT. -/
def Obligations.ReadPresComputesPressure : Prop :=
  ∀ s u : State, s.port.state = .ready → SampleObtained s u → u.cache.pValid = false →
    ∃ t, exec .readPres s = .next t ∧
      t.cache = { u.cache with
        tFine := t.cache.tFine, tfineValid := true, pOut := t.cache.pOut, pUndef := t.cache.pUndef, pValid := true } ∧
      (u.cache.tfineValid = true → t.cache.tFine = u.cache.tFine) ∧
      (u.cache.tfineValid = false → t.cache.tFine.toInt = tfineOf u.cache.adcT s.store.tp) ∧
      (presOf t.cache.tFine u.cache.adcP s.store.tp = none →
        t.port = s.port.completed .undefinedResult 0 ∧ t.cache.pOut = 0 ∧ t.cache.pUndef = true) ∧
      (∀ r, presOf t.cache.tFine u.cache.adcP s.store.tp = some r →
        t.port = s.port.completed .ok t.port.result ∧ t.port.result.toInt = r ∧ t.cache.pOut.toInt = r ∧
          t.cache.pUndef = false) ∧
      t.interval = s.interval ∧ t.store = s.store ∧ t.agents = u.agents

/-- R250, R237, R238: READ_HUM in variant TPH computes H_OUT from the one fine temperature of the sample. -/
def Obligations.ReadHumComputesHumidity : Prop :=
  ∀ s u : State, s.port.state = .ready → s.port.variant = .tph → SampleObtained s u → u.cache.hValid = false →
    ∃ t, exec .readHum s = .next t ∧
      t.port = s.port.completed .ok t.port.result ∧
      t.port.result.toInt = humOf t.cache.tFine u.cache.adcH s.store.hum ∧
      t.cache = { u.cache with tFine := t.cache.tFine, tfineValid := true, hOut := t.cache.hOut, hValid := true } ∧
      (t.cache.hOut.toNat : Int) = humOf t.cache.tFine u.cache.adcH s.store.hum ∧
      (u.cache.tfineValid = true → t.cache.tFine = u.cache.tFine) ∧
      (u.cache.tfineValid = false → t.cache.tFine.toInt = tfineOf u.cache.adcT s.store.tp) ∧
      t.interval = s.interval ∧ t.store = s.store ∧ t.agents = u.agents

/-- R240, R244, R245, R250: on a fresh sample whose output is cached, READ_TEMP, READ_PRES and READ_HUM return it (the
sentinel with the same completion) and change no cache register. -/
def Obligations.AccessorsReturnCachedOutputs : Prop :=
  ∀ s : State, s.port.state = .ready → SampleFresh s.port.arg s →
    (s.cache.tValid = true →
      exec .readTemp s = .next { s with port := s.port.completed .ok (s.cache.tOut.signExtend 128) }) ∧
    (s.cache.pValid = true → s.cache.pUndef = true →
      exec .readPres s = .next { s with port := s.port.completed .undefinedResult 0 }) ∧
    (s.cache.pValid = true → s.cache.pUndef = false →
      exec .readPres s = .next { s with port := s.port.completed .ok s.cache.pOut }) ∧
    (s.port.variant = .tph → s.cache.hValid = true →
      exec .readHum s = .next { s with port := s.port.completed .ok (s.cache.hOut.setWidth 128) })

/-- R251: in variant TP, READ_HUM writes only COMPLETION and issues no bus event. -/
def Obligations.ReadHumUnsupportedInTp : Prop :=
  ∀ s : State, s.port.state = .ready → s.port.variant = .tp →
    exec .readHum s = .next { s with port := s.port.completed .unsupportedOperation s.port.result }

/-- R281, R324: REFRESH and READ_* outside READY write only NOT_READY and issue no bus event. -/
def Obligations.ReadersNotReadyOutsideReady : Prop :=
  ∀ (i : Instr) (r : Reader) (s : State), i.reader? = some r → s.port.state ≠ .ready →
    exec i s = .next { s with port := s.port.completed .notReady s.port.result }

/-- R261: a READ_* repeated on the sample its first call left gives the same COMPLETION and RESULT, issues no bus event
and changes no cache register. -/
def Obligations.AccessorsAreIdempotent : Prop :=
  ∀ (i : Instr) (s t : State) (arg : BitVec 64), i = .readTemp ∨ i = .readPres ∨ i = .readHum →
    exec i s = .next t → t.port.busy = false → t.port.completion.isError = false → SampleFresh arg t →
    ∃ u, exec i (latched arg (encode i) t) = .next u ∧ u.port.completion = t.port.completion ∧
      u.port.result = t.port.result ∧ u.agents = t.agents ∧ u.cache = t.cache

/-! ### Whole-machine rules -/

/-- R136: a command, an illegal one and one that had to wait included, that completes with an error code keeps every
register but COMPLETION, and CHIP_ID and STATE of an UNRECOGNIZED_DEVICE completion; the events it issued stay in the
history. -/
def Obligations.ErrorsLeaveNoPartialUpdate : Prop :=
  ∀ s t : State, s.port.busy = true → step s = .next t → t.port.busy = false → t.port.completion.isError = true →
    t.interval = s.interval ∧ t.store = s.store ∧ t.cache = s.cache ∧
      (t.port.completion ≠ .unrecognizedDevice → t.port = s.port.completed t.port.completion s.port.result) ∧
      (t.port.completion = .unrecognizedDevice →
        t.port = { s.port.completed .unrecognizedDevice s.port.result with
          chipId := t.port.chipId, state := .failed }) ∧
      ∃ es, t.agents.history = s.agents.history ++ es

/-- R37: once CALIB_VALID = 1, no step but reset writes a coefficient, CALIB_VALID or VARIANT. -/
def Obligations.CalibrationImmutableUntilReset : Prop :=
  ∀ s t : State, EngineInvariant s → NoResetNext s → s.store.calibValid = true → step s = .next t →
    t.store = s.store ∧ t.port.variant = s.port.variant

/-- R134: a command stopped by one of the checks 1 to 3 records no bus event and uses up no answer. -/
def Obligations.EarlyChecksIssueNoBusEvent : Prop :=
  ∀ s t : State, s.port.busy = true → s.port.pending = none → step s = .next t → t.port.busy = false →
    (t.port.completion = .illegalCommand ∨ t.port.completion = .notReady ∨
      t.port.completion = .alreadyInitialized ∨ t.port.completion = .unsupportedOperation) →
    t.agents = s.agents

/-- R137, R281: a step in which a command ends COMMUNICATION_ERROR adds exactly one event that `CommErr` answered, and it
is the last; a step in which a command ends otherwise, or goes on waiting, adds none. -/
def Obligations.CommErrEndsTheCommandAtOnce : Prop :=
  ∀ s t : State, s.port.busy = true → step s = .next t →
    ∃ es, (∀ e ∈ es, e.failed = false) ∧
      (t.port.busy = true ∨ t.port.completion ≠ .communicationError → t.agents.history = s.agents.history ++ es) ∧
      (t.port.busy = false ∧ t.port.completion = .communicationError →
        ∃ e, e.failed = true ∧ t.agents.history = s.agents.history ++ es ++ [e])

/-- R138: no command reads COMPLETION or RESULT, a resumed one and an illegal one included: with other contents there, it
completes with the same code, writes the same RESULT or none, and does the same to all the rest. -/
def Obligations.CommandsIgnoreEarlierCodes : Prop :=
  ∀ (c : Completion) (v : BitVec 128) (s : State), s.port.busy = true →
    SameButEarlierCodes s c v (step s) (step (withCodes c v s))

/-- R43, R25, R26: the state after reset meets the engine invariant, and its cache is coherent. -/
def Obligations.ResetMeetsTheInvariants : Prop := EngineInvariant State.reset ∧ CacheCoherent State.reset

/-- R43, R25, R26: every step keeps the cache invariant and the invariants of VARIANT and of a waiting engine. -/
def Obligations.StepKeepsEngineInvariant : Prop :=
  ∀ s t : State, EngineInvariant s → step s = .next t → EngineInvariant t

/-- R41, R42, R45, R255: every step keeps the cached values equal to those of the current sample, all from one fine
temperature. -/
def Obligations.StepKeepsCacheCoherent : Prop :=
  ∀ s t : State, EngineInvariant s → CacheCoherent s → step s = .next t → CacheCoherent t

/-- R63, R66, R72, R75, R99: a step only adds to the bus history, only lawful transactions, and an idle engine adds
none. -/
def Obligations.StepAddsOnlyLawfulBusEvents : Prop :=
  ∀ s t : State, step s = .next t →
    ∃ es, t.agents.history = s.agents.history ++ es ∧ (∀ e ∈ es, e.lawful) ∧ (s.port.busy = false → es = [])

/-- R302: in every state, no command and no waiting command faults; what goes wrong in it is a completion code. -/
def Obligations.BusyEngineNeverFaults : Prop :=
  ∀ (s : State) (f : Fault), s.port.busy = true → step s ≠ .fault f

/-- R21, "The rules read them only when their valid bit is 1": in a state that keeps the invariants, what the registers
that hold no value contain has no effect on a step: with other contents there, the step ends the same way, and the next
states differ at most in registers that again hold no value. Every step keeps the bit that says that CMD and ARG hold one
while BUSY = 1. That bit is the model's (DESIGN CHOICE, log entry 16), and which registers hold a value is DEDUCED (log
entry 13). -/
def Obligations.StepIgnoresRegistersWithNoValue : Prop :=
  (∀ s t : State, LatchedIsIssued s → step s = .next t → LatchedIsIssued t) ∧
    ∀ x s : State, EngineInvariant s → LatchedIsIssued s →
      onNext (withNoValues x) (step (withNoValues x s)) = onNext (withNoValues x) (step s)

/-- R132: in every state, a busy engine completes its command in one step, or stays busy only for want of an answer, or
meets an answer of the wrong form; nothing else stops a step. The lists of answers and the refusal of a wrong form are the
model's: DESIGN CHOICE, log entry 3. -/
def Obligations.CommandCompletesWhenBusAnswers : Prop :=
  ∀ s : State, s.port.busy = true →
    (∃ t, step s = .next t ∧ (t.port.busy = false ∨ t.agents.bus = [])) ∨ step s = .refused .notAnAnswer

/-- R301: an engine whose open request gets no answer stays exactly as it is, with BUSY = 1. -/
def Obligations.UnansweredRequestLeavesEngineStuck : Prop :=
  ∀ (s : State) (p : Pending), s.port.busy = true → s.port.pending = some p → s.agents.bus = [] → step s = .next s

/-- R131: a command is a function of the latched state and BUS's answers in issue order. Waiting in between is
invisible: a busy engine that stopped for want of answers, and goes on when more come, does what it would have done
with all of them there at once. -/
def Obligations.WaitingForAnswersIsInvisible : Prop :=
  ∀ (s t : State) (first more : List BusAnswer), s.port.busy = true → step (withBus first s) = .next t →
    t.port.busy = true → step (withBus more t) = step (withBus (first ++ more) s)

/-! ### Host, reset, STATUS -/

/-- R320, R23: the reset values the spec gives, and which registers then hold no value. -/
def Obligations.ResetRegisterValues : Prop :=
  let s := State.reset
  s.port.state = .uninit ∧ s.port.busy = false ∧ s.port.variant = .none ∧ s.port.completion.code = 0x00 ∧
    s.port.result = 0 ∧ s.interval = 200 ∧ s.store.calibValid = false ∧ s.cache.sampleValid = false ∧
    s.cache.tfineValid = false ∧ s.cache.tValid = false ∧ s.cache.pValid = false ∧ s.cache.pUndef = false ∧
    s.cache.hValid = false ∧ status s = 0 ∧ s.agents.history = [] ∧
    ∀ r ∈ [Reg.chipId, .t1, .t2, .t3, .p1, .p2, .p3, .p4, .p5, .p6, .p7, .p8, .p9, .h1, .h2, .h3, .h4, .h5, .h6,
      .adcP, .adcT, .adcH, .lastTs, .tFine, .tOut, .pOut, .hOut, .cmd, .arg], holdsValue r s = false

/-- R320, R322, R323: reset, asserted by the host while BUSY = 0, gives every register its reset value, whatever the
state was, and issues no bus event. For the registers that the spec leaves without a value that is the model's 0 (DESIGN
CHOICE, log entry 1). What happens to the host's list, BUS's answers and the history is the model's too (log entries 2
and 14). -/
def Obligations.HostResetRestoresEveryRegister : Prop :=
  ∀ (s : State) (rest : List HostAction), s.port.busy = false → s.agents.host = .reset :: rest →
    ∃ t, step s = .next t ∧ t.port = State.reset.port ∧ t.interval = State.reset.interval ∧
      t.store = State.reset.store ∧ t.cache = State.reset.cache ∧ t.agents = { s.agents with host := rest }

/-- R300: the host may read every register of an idle engine. After reset each answers its content, in every state each
that holds a value answers it, and none stops but two kinds: H1..H6 and ADC_H in variant TP, where they do not exist (R36,
R39), and T_FINE and the outputs while there is a sample and their valid bit is 0, because "they must never be read from a
stale raw sample" (R43, U4). That a register nothing has written since reset answers the model's 0 is DESIGN CHOICE, log
entry 1; that these are the reads that stop is DEDUCED, log entry 13. -/
def Obligations.HostReadStopsOnlyWhereForbidden : Prop :=
  (∀ r : Reg, hostRead r State.reset = .next (regValue r State.reset)) ∧
    ∀ (s : State) (r : Reg), s.port.busy = false →
      let absent := s.port.variant = .tp ∧ r ∈ [Reg.h1, .h2, .h3, .h4, .h5, .h6, .adcH]
      let uncomputed := s.cache.sampleValid = true ∧
        ((r = .tFine ∧ s.cache.tfineValid = false) ∨ (r = .tOut ∧ s.cache.tValid = false) ∨
          (r = .pOut ∧ s.cache.pValid = false) ∨ (r = .hOut ∧ s.cache.hValid = false))
      (absent → hostRead r s = .fault (.readOfAbsentRegister r)) ∧
        (uncomputed → hostRead r s = .fault (.readOfUncomputedValue r)) ∧
        (¬absent → ¬uncomputed → hostRead r s = .next (regValue r s)) ∧
        (holdsValue r s = true → hostRead r s = .next (regValue r s))

/-- R300, R321: while BUSY = 1 the machine has no move for a CMD write, a reset or a register read; the model refuses
each by name. -/
def Obligations.BusyEngineRefusesTheHost : Prop :=
  ∀ (s : State) (arg : BitVec 64) (cmd : CmdWord) (r : Reg), s.port.busy = true →
    hostMove (.issue arg cmd) s = .refused .cmdWriteWhileBusy ∧ hostMove .reset s = .refused .resetWhileBusy ∧
      hostMove (.read r) s = .refused (.readWhileBusy r)

/-- R32: every bit of STATUS. -/
def Obligations.StatusBitLayout : Prop :=
  ∀ s : State,
    (status s).getLsbD 0 = s.port.busy ∧ (status s).extractLsb' 1 2 = s.port.state.code ∧
      (status s).extractLsb' 3 2 = s.port.variant.code ∧ (status s).getLsbD 5 = s.store.calibValid ∧
      (status s).getLsbD 6 = s.cache.sampleValid ∧ (status s).getLsbD 7 = s.cache.tfineValid ∧
      (status s).getLsbD 8 = s.cache.tValid ∧ (status s).getLsbD 9 = s.cache.pValid ∧
      (status s).getLsbD 10 = s.cache.pUndef ∧ (status s).getLsbD 11 = s.cache.hValid ∧
      (status s).extractLsb' 12 20 = 0 ∧ status State.reset = 0x00000000

/-- R95: the completion codes, and which of them are errors. -/
def Obligations.CompletionCodeValues : Prop :=
  Completion.ok.code = 0x00 ∧ Completion.undefinedResult.code = 0x01 ∧ Completion.communicationError.code = 0x10 ∧
    Completion.unrecognizedDevice.code = 0x11 ∧ Completion.unsupportedOperation.code = 0x12 ∧
    Completion.notReady.code = 0x13 ∧ Completion.alreadyInitialized.code = 0x14 ∧
    Completion.illegalCommand.code = 0x15 ∧ ∀ c : Completion, c.isError = true ↔ 0x10 ≤ c.code.toNat
end

