-- ==== Sys2Proof/Laws/State.lean ====
section
/-! SUPPORT. What each named update of State leaves in each field: true by rfl, so that no proof unfolds a record
update. A group an update does not touch has one lemma for the whole group. -/

namespace Sys2Proof.Machine

/-! raise -/

@[simp] theorem raise_state (c : Completion) (s : State) : (raise c s).port.state = s.port.state := rfl
@[simp] theorem raise_busy (c : Completion) (s : State) : (raise c s).port.busy = false := rfl
@[simp] theorem raise_variant (c : Completion) (s : State) : (raise c s).port.variant = s.port.variant := rfl
@[simp] theorem raise_chipId (c : Completion) (s : State) : (raise c s).port.chipId = s.port.chipId := rfl
@[simp] theorem raise_cmd (c : Completion) (s : State) : (raise c s).port.cmd = s.port.cmd := rfl
@[simp] theorem raise_arg (c : Completion) (s : State) : (raise c s).port.arg = s.port.arg := rfl
@[simp] theorem raise_completion (c : Completion) (s : State) : (raise c s).port.completion = c := rfl
@[simp] theorem raise_result (c : Completion) (s : State) : (raise c s).port.result = s.port.result := rfl
@[simp] theorem raise_issued (c : Completion) (s : State) : (raise c s).port.issued = s.port.issued := rfl
@[simp] theorem raise_pending (c : Completion) (s : State) : (raise c s).port.pending = none := rfl
@[simp] theorem raise_interval (c : Completion) (s : State) : (raise c s).interval = s.interval := rfl
@[simp] theorem raise_store (c : Completion) (s : State) : (raise c s).store = s.store := rfl
@[simp] theorem raise_cache (c : Completion) (s : State) : (raise c s).cache = s.cache := rfl
@[simp] theorem raise_agents (c : Completion) (s : State) : (raise c s).agents = s.agents := rfl

/-! setResult -/

@[simp] theorem setResult_state (v : Int) (s : State) : (setResult v s).port.state = s.port.state := rfl
@[simp] theorem setResult_busy (v : Int) (s : State) : (setResult v s).port.busy = s.port.busy := rfl
@[simp] theorem setResult_variant (v : Int) (s : State) : (setResult v s).port.variant = s.port.variant := rfl
@[simp] theorem setResult_chipId (v : Int) (s : State) : (setResult v s).port.chipId = s.port.chipId := rfl
@[simp] theorem setResult_cmd (v : Int) (s : State) : (setResult v s).port.cmd = s.port.cmd := rfl
@[simp] theorem setResult_arg (v : Int) (s : State) : (setResult v s).port.arg = s.port.arg := rfl
@[simp] theorem setResult_completion (v : Int) (s : State) : (setResult v s).port.completion = s.port.completion := rfl
@[simp] theorem setResult_result (v : Int) (s : State) : (setResult v s).port.result = BitVec.ofInt 128 v := rfl
@[simp] theorem setResult_issued (v : Int) (s : State) : (setResult v s).port.issued = s.port.issued := rfl
@[simp] theorem setResult_pending (v : Int) (s : State) : (setResult v s).port.pending = s.port.pending := rfl
@[simp] theorem setResult_interval (v : Int) (s : State) : (setResult v s).interval = s.interval := rfl
@[simp] theorem setResult_store (v : Int) (s : State) : (setResult v s).store = s.store := rfl
@[simp] theorem setResult_cache (v : Int) (s : State) : (setResult v s).cache = s.cache := rfl
@[simp] theorem setResult_agents (v : Int) (s : State) : (setResult v s).agents = s.agents := rfl

/-! complete -/

@[simp] theorem complete_state (c : Completion) (v : Int) (s : State) : (complete c v s).port.state =
    s.port.state := rfl
@[simp] theorem complete_busy (c : Completion) (v : Int) (s : State) : (complete c v s).port.busy = false := rfl
@[simp] theorem complete_variant (c : Completion) (v : Int) (s : State) : (complete c v s).port.variant =
    s.port.variant := rfl
@[simp] theorem complete_chipId (c : Completion) (v : Int) (s : State) : (complete c v s).port.chipId =
    s.port.chipId := rfl
@[simp] theorem complete_cmd (c : Completion) (v : Int) (s : State) : (complete c v s).port.cmd = s.port.cmd := rfl
@[simp] theorem complete_arg (c : Completion) (v : Int) (s : State) : (complete c v s).port.arg = s.port.arg := rfl
@[simp] theorem complete_completion (c : Completion) (v : Int) (s : State) : (complete c v s).port.completion = c := rfl
@[simp] theorem complete_result (c : Completion) (v : Int) (s : State) : (complete c v s).port.result =
    BitVec.ofInt 128 v := rfl
@[simp] theorem complete_issued (c : Completion) (v : Int) (s : State) : (complete c v s).port.issued =
    s.port.issued := rfl
@[simp] theorem complete_pending (c : Completion) (v : Int) (s : State) : (complete c v s).port.pending = none := rfl
@[simp] theorem complete_interval (c : Completion) (v : Int) (s : State) : (complete c v s).interval = s.interval := rfl
@[simp] theorem complete_store (c : Completion) (v : Int) (s : State) : (complete c v s).store = s.store := rfl
@[simp] theorem complete_cache (c : Completion) (v : Int) (s : State) : (complete c v s).cache = s.cache := rfl
@[simp] theorem complete_agents (c : Completion) (v : Int) (s : State) : (complete c v s).agents = s.agents := rfl

/-! stall -/

@[simp] theorem stall_state (p : Pending) (s : State) : (stall p s).port.state = s.port.state := rfl
@[simp] theorem stall_busy (p : Pending) (s : State) : (stall p s).port.busy = true := rfl
@[simp] theorem stall_variant (p : Pending) (s : State) : (stall p s).port.variant = s.port.variant := rfl
@[simp] theorem stall_chipId (p : Pending) (s : State) : (stall p s).port.chipId = s.port.chipId := rfl
@[simp] theorem stall_cmd (p : Pending) (s : State) : (stall p s).port.cmd = s.port.cmd := rfl
@[simp] theorem stall_arg (p : Pending) (s : State) : (stall p s).port.arg = s.port.arg := rfl
@[simp] theorem stall_completion (p : Pending) (s : State) : (stall p s).port.completion = s.port.completion := rfl
@[simp] theorem stall_result (p : Pending) (s : State) : (stall p s).port.result = s.port.result := rfl
@[simp] theorem stall_issued (p : Pending) (s : State) : (stall p s).port.issued = s.port.issued := rfl
@[simp] theorem stall_pending (p : Pending) (s : State) : (stall p s).port.pending = some p := rfl
@[simp] theorem stall_interval (p : Pending) (s : State) : (stall p s).interval = s.interval := rfl
@[simp] theorem stall_store (p : Pending) (s : State) : (stall p s).store = s.store := rfl
@[simp] theorem stall_cache (p : Pending) (s : State) : (stall p s).cache = s.cache := rfl
@[simp] theorem stall_agents (p : Pending) (s : State) : (stall p s).agents = s.agents := rfl

/-! record -/

@[simp] theorem record_port (e : BusEvent) (s : State) : (record e s).port = s.port := rfl
@[simp] theorem record_interval (e : BusEvent) (s : State) : (record e s).interval = s.interval := rfl
@[simp] theorem record_store (e : BusEvent) (s : State) : (record e s).store = s.store := rfl
@[simp] theorem record_cache (e : BusEvent) (s : State) : (record e s).cache = s.cache := rfl
@[simp] theorem record_host (e : BusEvent) (s : State) : (record e s).agents.host = s.agents.host := rfl
@[simp] theorem record_bus (e : BusEvent) (s : State) : (record e s).agents.bus = s.agents.bus := rfl
@[simp] theorem record_history (e : BusEvent) (s : State) : (record e s).agents.history = s.agents.history ++ [e] := rfl

/-! takeAnswer -/

@[simp] theorem takeAnswer_state (rest : List BusAnswer) (s : State) : (takeAnswer rest s).port.state =
    s.port.state := rfl
@[simp] theorem takeAnswer_busy (rest : List BusAnswer) (s : State) : (takeAnswer rest s).port.busy = s.port.busy := rfl
@[simp] theorem takeAnswer_variant (rest : List BusAnswer) (s : State) : (takeAnswer rest s).port.variant =
    s.port.variant := rfl
@[simp] theorem takeAnswer_chipId (rest : List BusAnswer) (s : State) : (takeAnswer rest s).port.chipId =
    s.port.chipId := rfl
@[simp] theorem takeAnswer_cmd (rest : List BusAnswer) (s : State) : (takeAnswer rest s).port.cmd = s.port.cmd := rfl
@[simp] theorem takeAnswer_arg (rest : List BusAnswer) (s : State) : (takeAnswer rest s).port.arg = s.port.arg := rfl
@[simp] theorem takeAnswer_completion (rest : List BusAnswer) (s : State) : (takeAnswer rest s).port.completion =
    s.port.completion := rfl
@[simp] theorem takeAnswer_result (rest : List BusAnswer) (s : State) : (takeAnswer rest s).port.result =
    s.port.result := rfl
@[simp] theorem takeAnswer_issued (rest : List BusAnswer) (s : State) : (takeAnswer rest s).port.issued =
    s.port.issued := rfl
@[simp] theorem takeAnswer_pending (rest : List BusAnswer) (s : State) : (takeAnswer rest s).port.pending = none := rfl
@[simp] theorem takeAnswer_interval (rest : List BusAnswer) (s : State) : (takeAnswer rest s).interval =
    s.interval := rfl
@[simp] theorem takeAnswer_store (rest : List BusAnswer) (s : State) : (takeAnswer rest s).store = s.store := rfl
@[simp] theorem takeAnswer_cache (rest : List BusAnswer) (s : State) : (takeAnswer rest s).cache = s.cache := rfl
@[simp] theorem takeAnswer_host (rest : List BusAnswer) (s : State) : (takeAnswer rest s).agents.host =
    s.agents.host := rfl
@[simp] theorem takeAnswer_bus (rest : List BusAnswer) (s : State) : (takeAnswer rest s).agents.bus = rest := rfl
@[simp] theorem takeAnswer_history (rest : List BusAnswer) (s : State) : (takeAnswer rest s).agents.history =
    s.agents.history := rfl

/-! takeAction -/

@[simp] theorem takeAction_port (rest : List HostAction) (s : State) : (takeAction rest s).port = s.port := rfl
@[simp] theorem takeAction_interval (rest : List HostAction) (s : State) : (takeAction rest s).interval =
    s.interval := rfl
@[simp] theorem takeAction_store (rest : List HostAction) (s : State) : (takeAction rest s).store = s.store := rfl
@[simp] theorem takeAction_cache (rest : List HostAction) (s : State) : (takeAction rest s).cache = s.cache := rfl
@[simp] theorem takeAction_host (rest : List HostAction) (s : State) : (takeAction rest s).agents.host = rest := rfl
@[simp] theorem takeAction_bus (rest : List HostAction) (s : State) : (takeAction rest s).agents.bus =
    s.agents.bus := rfl
@[simp] theorem takeAction_history (rest : List HostAction) (s : State) : (takeAction rest s).agents.history =
    s.agents.history := rfl

/-! latched -/

@[simp] theorem latched_state (arg : BitVec 64) (cmd : CmdWord) (s : State) : (latched arg cmd s).port.state =
    s.port.state := rfl
@[simp] theorem latched_busy (arg : BitVec 64) (cmd : CmdWord) (s : State) : (latched arg cmd s).port.busy = true := rfl
@[simp] theorem latched_variant (arg : BitVec 64) (cmd : CmdWord) (s : State) : (latched arg cmd s).port.variant =
    s.port.variant := rfl
@[simp] theorem latched_chipId (arg : BitVec 64) (cmd : CmdWord) (s : State) : (latched arg cmd s).port.chipId =
    s.port.chipId := rfl
@[simp] theorem latched_cmd (arg : BitVec 64) (cmd : CmdWord) (s : State) : (latched arg cmd s).port.cmd = cmd := rfl
@[simp] theorem latched_arg (arg : BitVec 64) (cmd : CmdWord) (s : State) : (latched arg cmd s).port.arg = arg := rfl
@[simp] theorem latched_completion (arg : BitVec 64) (cmd : CmdWord) (s : State) : (latched arg cmd s).port.completion =
    s.port.completion := rfl
@[simp] theorem latched_result (arg : BitVec 64) (cmd : CmdWord) (s : State) : (latched arg cmd s).port.result =
    s.port.result := rfl
@[simp] theorem latched_issued (arg : BitVec 64) (cmd : CmdWord) (s : State) : (latched arg cmd s).port.issued =
    true := rfl
@[simp] theorem latched_pending (arg : BitVec 64) (cmd : CmdWord) (s : State) : (latched arg cmd s).port.pending =
    none := rfl
@[simp] theorem latched_interval (arg : BitVec 64) (cmd : CmdWord) (s : State) : (latched arg cmd s).interval =
    s.interval := rfl
@[simp] theorem latched_store (arg : BitVec 64) (cmd : CmdWord) (s : State) : (latched arg cmd s).store = s.store := rfl
@[simp] theorem latched_cache (arg : BitVec 64) (cmd : CmdWord) (s : State) : (latched arg cmd s).cache = s.cache := rfl
@[simp] theorem latched_agents (arg : BitVec 64) (cmd : CmdWord) (s : State) : (latched arg cmd s).agents =
    s.agents := rfl

/-! setInterval -/

@[simp] theorem setInterval_port (v : BitVec 64) (s : State) : (setInterval v s).port = s.port := rfl
@[simp] theorem setInterval_interval (v : BitVec 64) (s : State) : (setInterval v s).interval = v := rfl
@[simp] theorem setInterval_store (v : BitVec 64) (s : State) : (setInterval v s).store = s.store := rfl
@[simp] theorem setInterval_cache (v : BitVec 64) (s : State) : (setInterval v s).cache = s.cache := rfl
@[simp] theorem setInterval_agents (v : BitVec 64) (s : State) : (setInterval v s).agents = s.agents := rfl

/-! failIdentity -/

@[simp] theorem failIdentity_state (id : Byte) (s : State) : (failIdentity id s).port.state = .failed := rfl
@[simp] theorem failIdentity_busy (id : Byte) (s : State) : (failIdentity id s).port.busy = s.port.busy := rfl
@[simp] theorem failIdentity_variant (id : Byte) (s : State) : (failIdentity id s).port.variant = s.port.variant := rfl
@[simp] theorem failIdentity_chipId (id : Byte) (s : State) : (failIdentity id s).port.chipId = id := rfl
@[simp] theorem failIdentity_cmd (id : Byte) (s : State) : (failIdentity id s).port.cmd = s.port.cmd := rfl
@[simp] theorem failIdentity_arg (id : Byte) (s : State) : (failIdentity id s).port.arg = s.port.arg := rfl
@[simp] theorem failIdentity_completion (id : Byte) (s : State) : (failIdentity id s).port.completion =
    s.port.completion := rfl
@[simp] theorem failIdentity_result (id : Byte) (s : State) : (failIdentity id s).port.result = s.port.result := rfl
@[simp] theorem failIdentity_issued (id : Byte) (s : State) : (failIdentity id s).port.issued = s.port.issued := rfl
@[simp] theorem failIdentity_pending (id : Byte) (s : State) : (failIdentity id s).port.pending = s.port.pending := rfl
@[simp] theorem failIdentity_interval (id : Byte) (s : State) : (failIdentity id s).interval = s.interval := rfl
@[simp] theorem failIdentity_store (id : Byte) (s : State) : (failIdentity id s).store = s.store := rfl
@[simp] theorem failIdentity_cache (id : Byte) (s : State) : (failIdentity id s).cache = s.cache := rfl
@[simp] theorem failIdentity_agents (id : Byte) (s : State) : (failIdentity id s).agents = s.agents := rfl

/-! commitTp -/

@[simp] theorem commitTp_state (id : Byte) (c : List Byte) (s : State) : (commitTp id c s).port.state = .ready := rfl
@[simp] theorem commitTp_busy (id : Byte) (c : List Byte) (s : State) : (commitTp id c s).port.busy = s.port.busy := rfl
@[simp] theorem commitTp_variant (id : Byte) (c : List Byte) (s : State) : (commitTp id c s).port.variant =
    variantOf id := rfl
@[simp] theorem commitTp_chipId (id : Byte) (c : List Byte) (s : State) : (commitTp id c s).port.chipId = id := rfl
@[simp] theorem commitTp_cmd (id : Byte) (c : List Byte) (s : State) : (commitTp id c s).port.cmd = s.port.cmd := rfl
@[simp] theorem commitTp_arg (id : Byte) (c : List Byte) (s : State) : (commitTp id c s).port.arg = s.port.arg := rfl
@[simp] theorem commitTp_completion (id : Byte) (c : List Byte) (s : State) : (commitTp id c s).port.completion =
    s.port.completion := rfl
@[simp] theorem commitTp_result (id : Byte) (c : List Byte) (s : State) : (commitTp id c s).port.result =
    s.port.result := rfl
@[simp] theorem commitTp_issued (id : Byte) (c : List Byte) (s : State) : (commitTp id c s).port.issued =
    s.port.issued := rfl
@[simp] theorem commitTp_pending (id : Byte) (c : List Byte) (s : State) : (commitTp id c s).port.pending =
    s.port.pending := rfl
@[simp] theorem commitTp_interval (id : Byte) (c : List Byte) (s : State) : (commitTp id c s).interval =
    s.interval := rfl
@[simp] theorem commitTp_calibValid (id : Byte) (c : List Byte) (s : State) : (commitTp id c s).store.calibValid =
    true := rfl
@[simp] theorem commitTp_tp (id : Byte) (c : List Byte) (s : State) : (commitTp id c s).store.tp = decodeTp c := rfl
@[simp] theorem commitTp_hum (id : Byte) (c : List Byte) (s : State) : (commitTp id c s).store.hum = s.store.hum := rfl
@[simp] theorem commitTp_cache (id : Byte) (c : List Byte) (s : State) : (commitTp id c s).cache = s.cache := rfl
@[simp] theorem commitTp_agents (id : Byte) (c : List Byte) (s : State) : (commitTp id c s).agents = s.agents := rfl

/-! commitHum -/

@[simp] theorem commitHum_port (a : Byte) (e : List Byte) (s : State) : (commitHum a e s).port = s.port := rfl
@[simp] theorem commitHum_interval (a : Byte) (e : List Byte) (s : State) : (commitHum a e s).interval =
    s.interval := rfl
@[simp] theorem commitHum_calibValid (a : Byte) (e : List Byte) (s : State) : (commitHum a e s).store.calibValid =
    s.store.calibValid := rfl
@[simp] theorem commitHum_tp (a : Byte) (e : List Byte) (s : State) : (commitHum a e s).store.tp = s.store.tp := rfl
@[simp] theorem commitHum_hum (a : Byte) (e : List Byte) (s : State) : (commitHum a e s).store.hum = decodeH a e := rfl
@[simp] theorem commitHum_cache (a : Byte) (e : List Byte) (s : State) : (commitHum a e s).cache = s.cache := rfl
@[simp] theorem commitHum_agents (a : Byte) (e : List Byte) (s : State) : (commitHum a e s).agents = s.agents := rfl

/-! loadSample -/

@[simp] theorem loadSample_port (now : BitVec 64) (b : List Byte) (s : State) : (loadSample now b s).port =
    s.port := rfl
@[simp] theorem loadSample_interval (now : BitVec 64) (b : List Byte) (s : State) : (loadSample now b s).interval =
    s.interval := rfl
@[simp] theorem loadSample_store (now : BitVec 64) (b : List Byte) (s : State) : (loadSample now b s).store =
    s.store := rfl
@[simp] theorem loadSample_sampleValid (now : BitVec 64) (b : List Byte) (s : State) : (loadSample now b s).cache.sampleValid =
    true := rfl
@[simp] theorem loadSample_adcP (now : BitVec 64) (b : List Byte) (s : State) : (loadSample now b s).cache.adcP =
    burstP b := rfl
@[simp] theorem loadSample_adcT (now : BitVec 64) (b : List Byte) (s : State) : (loadSample now b s).cache.adcT =
    burstT b := rfl
@[simp] theorem loadSample_adcH (now : BitVec 64) (b : List Byte) (s : State) : (loadSample now b s).cache.adcH = if s.port.variant =
    .tph then burstH b else s.cache.adcH := rfl
@[simp] theorem loadSample_lastTs (now : BitVec 64) (b : List Byte) (s : State) : (loadSample now b s).cache.lastTs =
    now := rfl
@[simp] theorem loadSample_tfineValid (now : BitVec 64) (b : List Byte) (s : State) : (loadSample now b s).cache.tfineValid =
    false := rfl
@[simp] theorem loadSample_tFine (now : BitVec 64) (b : List Byte) (s : State) : (loadSample now b s).cache.tFine =
    s.cache.tFine := rfl
@[simp] theorem loadSample_tValid (now : BitVec 64) (b : List Byte) (s : State) : (loadSample now b s).cache.tValid =
    false := rfl
@[simp] theorem loadSample_tOut (now : BitVec 64) (b : List Byte) (s : State) : (loadSample now b s).cache.tOut =
    s.cache.tOut := rfl
@[simp] theorem loadSample_pValid (now : BitVec 64) (b : List Byte) (s : State) : (loadSample now b s).cache.pValid =
    false := rfl
@[simp] theorem loadSample_pUndef (now : BitVec 64) (b : List Byte) (s : State) : (loadSample now b s).cache.pUndef =
    false := rfl
@[simp] theorem loadSample_pOut (now : BitVec 64) (b : List Byte) (s : State) : (loadSample now b s).cache.pOut =
    s.cache.pOut := rfl
@[simp] theorem loadSample_hValid (now : BitVec 64) (b : List Byte) (s : State) : (loadSample now b s).cache.hValid =
    false := rfl
@[simp] theorem loadSample_hOut (now : BitVec 64) (b : List Byte) (s : State) : (loadSample now b s).cache.hOut =
    s.cache.hOut := rfl
@[simp] theorem loadSample_agents (now : BitVec 64) (b : List Byte) (s : State) : (loadSample now b s).agents =
    s.agents := rfl

/-! loadTFine -/

@[simp] theorem loadTFine_port (s : State) : (loadTFine s).port = s.port := rfl
@[simp] theorem loadTFine_interval (s : State) : (loadTFine s).interval = s.interval := rfl
@[simp] theorem loadTFine_store (s : State) : (loadTFine s).store = s.store := rfl
@[simp] theorem loadTFine_sampleValid (s : State) : (loadTFine s).cache.sampleValid = s.cache.sampleValid := rfl
@[simp] theorem loadTFine_adcP (s : State) : (loadTFine s).cache.adcP = s.cache.adcP := rfl
@[simp] theorem loadTFine_adcT (s : State) : (loadTFine s).cache.adcT = s.cache.adcT := rfl
@[simp] theorem loadTFine_adcH (s : State) : (loadTFine s).cache.adcH = s.cache.adcH := rfl
@[simp] theorem loadTFine_lastTs (s : State) : (loadTFine s).cache.lastTs = s.cache.lastTs := rfl
@[simp] theorem loadTFine_tfineValid (s : State) : (loadTFine s).cache.tfineValid = true := rfl
@[simp] theorem loadTFine_tFine (s : State) : (loadTFine s).cache.tFine = tFineReg s.cache.adcT s.store.tp := rfl
@[simp] theorem loadTFine_tValid (s : State) : (loadTFine s).cache.tValid = s.cache.tValid := rfl
@[simp] theorem loadTFine_tOut (s : State) : (loadTFine s).cache.tOut = s.cache.tOut := rfl
@[simp] theorem loadTFine_pValid (s : State) : (loadTFine s).cache.pValid = s.cache.pValid := rfl
@[simp] theorem loadTFine_pUndef (s : State) : (loadTFine s).cache.pUndef = s.cache.pUndef := rfl
@[simp] theorem loadTFine_pOut (s : State) : (loadTFine s).cache.pOut = s.cache.pOut := rfl
@[simp] theorem loadTFine_hValid (s : State) : (loadTFine s).cache.hValid = s.cache.hValid := rfl
@[simp] theorem loadTFine_hOut (s : State) : (loadTFine s).cache.hOut = s.cache.hOut := rfl
@[simp] theorem loadTFine_agents (s : State) : (loadTFine s).agents = s.agents := rfl

/-! loadTOut -/

@[simp] theorem loadTOut_port (tf : BitVec 23) (s : State) : (loadTOut tf s).port = s.port := rfl
@[simp] theorem loadTOut_interval (tf : BitVec 23) (s : State) : (loadTOut tf s).interval = s.interval := rfl
@[simp] theorem loadTOut_store (tf : BitVec 23) (s : State) : (loadTOut tf s).store = s.store := rfl
@[simp] theorem loadTOut_sampleValid (tf : BitVec 23) (s : State) : (loadTOut tf s).cache.sampleValid =
    s.cache.sampleValid := rfl
@[simp] theorem loadTOut_adcP (tf : BitVec 23) (s : State) : (loadTOut tf s).cache.adcP = s.cache.adcP := rfl
@[simp] theorem loadTOut_adcT (tf : BitVec 23) (s : State) : (loadTOut tf s).cache.adcT = s.cache.adcT := rfl
@[simp] theorem loadTOut_adcH (tf : BitVec 23) (s : State) : (loadTOut tf s).cache.adcH = s.cache.adcH := rfl
@[simp] theorem loadTOut_lastTs (tf : BitVec 23) (s : State) : (loadTOut tf s).cache.lastTs = s.cache.lastTs := rfl
@[simp] theorem loadTOut_tfineValid (tf : BitVec 23) (s : State) : (loadTOut tf s).cache.tfineValid =
    s.cache.tfineValid := rfl
@[simp] theorem loadTOut_tFine (tf : BitVec 23) (s : State) : (loadTOut tf s).cache.tFine = s.cache.tFine := rfl
@[simp] theorem loadTOut_tValid (tf : BitVec 23) (s : State) : (loadTOut tf s).cache.tValid = true := rfl
@[simp] theorem loadTOut_tOut (tf : BitVec 23) (s : State) : (loadTOut tf s).cache.tOut = tOutReg tf := rfl
@[simp] theorem loadTOut_pValid (tf : BitVec 23) (s : State) : (loadTOut tf s).cache.pValid = s.cache.pValid := rfl
@[simp] theorem loadTOut_pUndef (tf : BitVec 23) (s : State) : (loadTOut tf s).cache.pUndef = s.cache.pUndef := rfl
@[simp] theorem loadTOut_pOut (tf : BitVec 23) (s : State) : (loadTOut tf s).cache.pOut = s.cache.pOut := rfl
@[simp] theorem loadTOut_hValid (tf : BitVec 23) (s : State) : (loadTOut tf s).cache.hValid = s.cache.hValid := rfl
@[simp] theorem loadTOut_hOut (tf : BitVec 23) (s : State) : (loadTOut tf s).cache.hOut = s.cache.hOut := rfl
@[simp] theorem loadTOut_agents (tf : BitVec 23) (s : State) : (loadTOut tf s).agents = s.agents := rfl

/-! loadPOut -/

@[simp] theorem loadPOut_port (tf : BitVec 23) (s : State) : (loadPOut tf s).port = s.port := rfl
@[simp] theorem loadPOut_interval (tf : BitVec 23) (s : State) : (loadPOut tf s).interval = s.interval := rfl
@[simp] theorem loadPOut_store (tf : BitVec 23) (s : State) : (loadPOut tf s).store = s.store := rfl
@[simp] theorem loadPOut_sampleValid (tf : BitVec 23) (s : State) : (loadPOut tf s).cache.sampleValid =
    s.cache.sampleValid := rfl
@[simp] theorem loadPOut_adcP (tf : BitVec 23) (s : State) : (loadPOut tf s).cache.adcP = s.cache.adcP := rfl
@[simp] theorem loadPOut_adcT (tf : BitVec 23) (s : State) : (loadPOut tf s).cache.adcT = s.cache.adcT := rfl
@[simp] theorem loadPOut_adcH (tf : BitVec 23) (s : State) : (loadPOut tf s).cache.adcH = s.cache.adcH := rfl
@[simp] theorem loadPOut_lastTs (tf : BitVec 23) (s : State) : (loadPOut tf s).cache.lastTs = s.cache.lastTs := rfl
@[simp] theorem loadPOut_tfineValid (tf : BitVec 23) (s : State) : (loadPOut tf s).cache.tfineValid =
    s.cache.tfineValid := rfl
@[simp] theorem loadPOut_tFine (tf : BitVec 23) (s : State) : (loadPOut tf s).cache.tFine = s.cache.tFine := rfl
@[simp] theorem loadPOut_tValid (tf : BitVec 23) (s : State) : (loadPOut tf s).cache.tValid = s.cache.tValid := rfl
@[simp] theorem loadPOut_tOut (tf : BitVec 23) (s : State) : (loadPOut tf s).cache.tOut = s.cache.tOut := rfl
@[simp] theorem loadPOut_pValid (tf : BitVec 23) (s : State) : (loadPOut tf s).cache.pValid = true := rfl
@[simp] theorem loadPOut_pUndef (tf : BitVec 23) (s : State) : (loadPOut tf s).cache.pUndef =
    (pOutReg tf s.cache.adcP s.store.tp).2 := rfl
@[simp] theorem loadPOut_pOut (tf : BitVec 23) (s : State) : (loadPOut tf s).cache.pOut =
    (pOutReg tf s.cache.adcP s.store.tp).1 := rfl
@[simp] theorem loadPOut_hValid (tf : BitVec 23) (s : State) : (loadPOut tf s).cache.hValid = s.cache.hValid := rfl
@[simp] theorem loadPOut_hOut (tf : BitVec 23) (s : State) : (loadPOut tf s).cache.hOut = s.cache.hOut := rfl
@[simp] theorem loadPOut_agents (tf : BitVec 23) (s : State) : (loadPOut tf s).agents = s.agents := rfl

/-! loadHOut -/

@[simp] theorem loadHOut_port (tf : BitVec 23) (s : State) : (loadHOut tf s).port = s.port := rfl
@[simp] theorem loadHOut_interval (tf : BitVec 23) (s : State) : (loadHOut tf s).interval = s.interval := rfl
@[simp] theorem loadHOut_store (tf : BitVec 23) (s : State) : (loadHOut tf s).store = s.store := rfl
@[simp] theorem loadHOut_sampleValid (tf : BitVec 23) (s : State) : (loadHOut tf s).cache.sampleValid =
    s.cache.sampleValid := rfl
@[simp] theorem loadHOut_adcP (tf : BitVec 23) (s : State) : (loadHOut tf s).cache.adcP = s.cache.adcP := rfl
@[simp] theorem loadHOut_adcT (tf : BitVec 23) (s : State) : (loadHOut tf s).cache.adcT = s.cache.adcT := rfl
@[simp] theorem loadHOut_adcH (tf : BitVec 23) (s : State) : (loadHOut tf s).cache.adcH = s.cache.adcH := rfl
@[simp] theorem loadHOut_lastTs (tf : BitVec 23) (s : State) : (loadHOut tf s).cache.lastTs = s.cache.lastTs := rfl
@[simp] theorem loadHOut_tfineValid (tf : BitVec 23) (s : State) : (loadHOut tf s).cache.tfineValid =
    s.cache.tfineValid := rfl
@[simp] theorem loadHOut_tFine (tf : BitVec 23) (s : State) : (loadHOut tf s).cache.tFine = s.cache.tFine := rfl
@[simp] theorem loadHOut_tValid (tf : BitVec 23) (s : State) : (loadHOut tf s).cache.tValid = s.cache.tValid := rfl
@[simp] theorem loadHOut_tOut (tf : BitVec 23) (s : State) : (loadHOut tf s).cache.tOut = s.cache.tOut := rfl
@[simp] theorem loadHOut_pValid (tf : BitVec 23) (s : State) : (loadHOut tf s).cache.pValid = s.cache.pValid := rfl
@[simp] theorem loadHOut_pUndef (tf : BitVec 23) (s : State) : (loadHOut tf s).cache.pUndef = s.cache.pUndef := rfl
@[simp] theorem loadHOut_pOut (tf : BitVec 23) (s : State) : (loadHOut tf s).cache.pOut = s.cache.pOut := rfl
@[simp] theorem loadHOut_hValid (tf : BitVec 23) (s : State) : (loadHOut tf s).cache.hValid = true := rfl
@[simp] theorem loadHOut_hOut (tf : BitVec 23) (s : State) : (loadHOut tf s).cache.hOut =
    hOutReg tf s.cache.adcH s.store.hum := rfl
@[simp] theorem loadHOut_agents (tf : BitVec 23) (s : State) : (loadHOut tf s).agents = s.agents := rfl

/-! resetRegisters -/

@[simp] theorem resetRegisters_port (s : State) : (resetRegisters s).port = State.reset.port := rfl
@[simp] theorem resetRegisters_interval (s : State) : (resetRegisters s).interval = State.reset.interval := rfl
@[simp] theorem resetRegisters_store (s : State) : (resetRegisters s).store = State.reset.store := rfl
@[simp] theorem resetRegisters_cache (s : State) : (resetRegisters s).cache = State.reset.cache := rfl
@[simp] theorem resetRegisters_agents (s : State) : (resetRegisters s).agents = s.agents := rfl

end Sys2Proof.Machine
end

