-- ==== Sys2Proof/Laws/Ops.lean ====
section
/-! SUPPORT. What each shared operation can do, said once. A rule has the form: if Q holds of every outcome the
operation can have, Q holds of the operation. With Q an equation with `.next t` it is the inversion lemma, and with Q
a property of next states it is the invariant lemma; provers cite it instead of unfolding the operation. -/

namespace Sys2Proof.Machine

/-- The four things a MemRead can do (R72, R74, R301). -/
theorem memRead_rule {Q : Out → Prop} {off : Byte} {n : Nat} {p : Pending} {k : Option (List Byte) → State → Out}
    {s : State} (waits : s.agents.bus = [] → Q (.next (stall p s)))
    (fails : ∀ rest, s.agents.bus = .commErr :: rest →
      Q (k none (record (readEvent off n none) (takeAnswer rest s))))
    (answers : ∀ bs rest, s.agents.bus = .bytes bs :: rest → bs.length = n →
      Q (k (some bs) (record (readEvent off n (some bs)) (takeAnswer rest s))))
    (wrong : Q (.refused .notAnAnswer)) : Q (memRead off n p k s) := by
  unfold memRead
  split
  · exact waits ‹_›
  · exact fails _ ‹_›
  · split
    · exact answers _ _ ‹_› ‹_›
    · exact wrong
  · exact wrong

/-- The four things the control write can do (R72, R74, R301). -/
theorem memWriteControl_rule {Q : Out → Prop} {p : Pending} {k : Bool → State → Out} {s : State}
    (waits : s.agents.bus = [] → Q (.next (stall p s)))
    (fails : ∀ rest, s.agents.bus = .commErr :: rest → Q (k false (record (controlEvent false) (takeAnswer rest s))))
    (answers : ∀ rest, s.agents.bus = .ok :: rest → Q (k true (record (controlEvent true) (takeAnswer rest s))))
    (wrong : Q (.refused .notAnAnswer)) : Q (memWriteControl p k s) := by
  unfold memWriteControl
  split
  · exact waits ‹_›
  · exact fails _ ‹_›
  · exact answers _ ‹_›
  · exact wrong

theorem memRead_waits {off : Byte} {n : Nat} {p : Pending} {k : Option (List Byte) → State → Out} {s : State}
    (h : s.agents.bus = []) : memRead off n p k s = .next (stall p s) := by
  simp only [memRead, h]

theorem memRead_fails {off : Byte} {n : Nat} {p : Pending} {k : Option (List Byte) → State → Out} {s : State}
    {rest : List BusAnswer} (h : s.agents.bus = .commErr :: rest) :
    memRead off n p k s = k none (record (readEvent off n none) (takeAnswer rest s)) := by
  simp only [memRead, h]

theorem memRead_answers {off : Byte} {n : Nat} {p : Pending} {k : Option (List Byte) → State → Out} {s : State}
    {bs : List Byte} {rest : List BusAnswer} (h : s.agents.bus = .bytes bs :: rest) (hn : bs.length = n) :
    memRead off n p k s = k (some bs) (record (readEvent off n (some bs)) (takeAnswer rest s)) := by
  simp only [memRead, h, hn, if_true]

theorem memWriteControl_waits {p : Pending} {k : Bool → State → Out} {s : State} (h : s.agents.bus = []) :
    memWriteControl p k s = .next (stall p s) := by
  simp only [memWriteControl, h]

theorem memWriteControl_fails {p : Pending} {k : Bool → State → Out} {s : State} {rest : List BusAnswer}
    (h : s.agents.bus = .commErr :: rest) :
    memWriteControl p k s = k false (record (controlEvent false) (takeAnswer rest s)) := by
  simp only [memWriteControl, h]

theorem memWriteControl_answers {p : Pending} {k : Bool → State → Out} {s : State} {rest : List BusAnswer}
    (h : s.agents.bus = .ok :: rest) :
    memWriteControl p k s = k true (record (controlEvent true) (takeAnswer rest s)) := by
  simp only [memWriteControl, h]

/-- What ensure_fresh can do, down to its two bus events (R193). -/
theorem ensureFresh_rule {Q : Out → Prop} {r : Reader} {k : Bool → State → Out} {s : State}
    (reused : fresh s.port.arg s = true → Q (k false s))
    (converts : fresh s.port.arg s = false → Q (convert r k s)) : Q (ensureFresh r k s) := by
  unfold ensureFresh
  split
  · exact reused ‹_›
  · exact converts (by simpa using ‹¬fresh s.port.arg s = true›)

/-- What the burst read can do (R193, R200). -/
theorem readBurst_rule {Q : Out → Prop} {r : Reader} {k : Bool → State → Out} {s : State}
    (waits : s.agents.bus = [] → Q (.next (stall (.burst r) s)))
    (fails : ∀ rest, s.agents.bus = .commErr :: rest → Q (.next (raise .communicationError
      (record (readEvent 0xF7 (burstLength s.port.variant) none) (takeAnswer rest s)))))
    (answers : ∀ bs rest, s.agents.bus = .bytes bs :: rest → bs.length = burstLength s.port.variant →
      Q (k true (loadSample s.port.arg bs
        (record (readEvent 0xF7 (burstLength s.port.variant) (some bs)) (takeAnswer rest s)))))
    (wrong : Q (.refused .notAnAnswer)) : Q (readBurst r k s) :=
  memRead_rule waits fails answers wrong

/-- What the conversion sequence can do (R193, R196, R200): it waits, fails, or goes on with the burst read. -/
theorem convert_rule {Q : Out → Prop} {r : Reader} {k : Bool → State → Out} {s : State}
    (waits : s.agents.bus = [] → Q (.next (stall (.control r) s)))
    (fails : ∀ rest, s.agents.bus = .commErr :: rest → Q (.next (raise .communicationError
      (record (controlEvent false) (takeAnswer rest s)))))
    (answers : ∀ rest, s.agents.bus = .ok :: rest →
      Q (readBurst r k (record settleEvent (record (controlEvent true) (takeAnswer rest s)))))
    (wrong : Q (.refused .notAnAnswer)) : Q (convert r k s) :=
  memWriteControl_rule waits fails answers wrong

/-- What ensure_tfine can do (R233): use T_FINE, or compute it. -/
theorem ensureTFine_rule {Q : Out → Prop} {k : BitVec 23 → State → Out} {s : State}
    (cached : s.cache.tfineValid = true → Q (k s.cache.tFine s))
    (computed : s.cache.tfineValid = false → Q (k (tFineReg s.cache.adcT s.store.tp) (loadTFine s))) :
    Q (ensureTFine k s) := by
  unfold ensureTFine
  split
  · exact cached ‹_›
  · exact computed (by simpa using ‹¬s.cache.tfineValid = true›)

/-- The four things a host read can do (R300). -/
theorem hostRead_rule {Q : Host.Outcome Int Fault Refusal → Prop} {r : Reg} {s : State}
    (busy : s.port.busy = true → Q (.refused (.readWhileBusy r)))
    (absent : absentRegister r s = true → Q (.fault (.readOfAbsentRegister r)))
    (uncomputed : uncomputedValue r s = true → Q (.fault (.readOfUncomputedValue r)))
    (answers : s.port.busy = false → absentRegister r s = false → uncomputedValue r s = false →
      Q (.next (regValue r s))) : Q (hostRead r s) := by
  unfold hostRead
  split
  · exact busy ‹_›
  · split
    · exact absent ‹_›
    · split
      · exact uncomputed ‹_›
      · exact answers (by simpa using ‹¬s.port.busy = true›) (by simpa using ‹¬absentRegister r s = true›)
          (by simpa using ‹¬uncomputedValue r s = true›)

/-- The three moves of an idle engine's host (R300). -/
theorem hostMove_rule {Q : Out → Prop} {a : HostAction} {s : State} (hb : s.port.busy = false)
    (issued : ∀ arg cmd, a = .issue arg cmd → Q (.next (latched arg cmd s)))
    (reset : a = .reset → Q (.next (resetRegisters s))) (seen : ∀ r, a = .read r → Q (.next s))
    (fault : ∀ f, Q (.fault f)) (refused : ∀ q, Q (.refused q)) : Q (hostMove a s) := by
  cases a with
  | issue arg cmd => simpa [hostMove, hostIssue, hb] using issued arg cmd rfl
  | reset => simpa [hostMove, hostReset, hb] using reset rfl
  | read r =>
    simp only [hostMove]
    split
    · exact seen r rfl
    · exact fault _
    · exact refused _

end Sys2Proof.Machine
end

