-- ==== Sys2Proof/Laws/PerInstr.lean ====
section
/-! SUPPORT. The per-instruction families named in LAWS.json. -/

namespace Sys2Proof.Laws

/-- The instruction's word is well formed, decodes to it, and is its opcode zero-extended (R90, R92). -/
def RoundTrip.Statement (i : Instr) : Prop :=
  i.wellFormed = true ∧ wordWellFormed (encode i) = true ∧ decode (encode i) = .instr i ∧
    encode i = (opcode i).setWidth 32

theorem RoundTrip.nop : RoundTrip.Statement .nop := ⟨rfl, rfl, rfl, rfl⟩
theorem RoundTrip.init : RoundTrip.Statement .init := ⟨rfl, rfl, rfl, rfl⟩
theorem RoundTrip.setInterval : RoundTrip.Statement .setInterval := ⟨rfl, rfl, rfl, rfl⟩
theorem RoundTrip.refresh : RoundTrip.Statement .refresh := ⟨rfl, rfl, rfl, rfl⟩
theorem RoundTrip.readTemp : RoundTrip.Statement .readTemp := ⟨rfl, rfl, rfl, rfl⟩
theorem RoundTrip.readPres : RoundTrip.Statement .readPres := ⟨rfl, rfl, rfl, rfl⟩
theorem RoundTrip.readHum : RoundTrip.Statement .readHum := ⟨rfl, rfl, rfl, rfl⟩

end Sys2Proof.Laws
end

