-- ==== Sys2Proof/Tests/Slice0.lean ====
section
/-! SUPPORT. Tests of the model against 95_test_vectors.md and the rules' own worked examples, and a witness for the
hypotheses of every obligation that has any. No expected value comes from the model. -/

namespace Sys2Proof.Tests

open Sys2Proof Sys2Proof.Machine

/-! ### Well-formed words: each check refuses a word (R90, R93; 95_test_vectors.md §2.2) -/

theorem test_wf_refuses_reserved_bits : wordWellFormed 0x00000104#32 = false ∧ reservedFieldZero 0x00000104#32 = false ∧
    opcodeAssigned 0x00000104#32 = true ∧ wordWellFormed 0x80000000#32 = false := by decide

theorem test_wf_refuses_unassigned_opcode : wordWellFormed 0x00000007#32 = false ∧ opcodeAssigned 0x00000007#32 = false ∧
    reservedFieldZero 0x00000007#32 = true ∧ wordWellFormed 0x000000FF#32 = false := by decide

theorem test_wf_accepts_last_opcode : wordWellFormed 0x00000006#32 = true ∧ wordWellFormed 0#32 = true := by decide

/-! ### Decoding: every constructor's word, bit by bit: RSV (24 bits of 0), then OP (R90, R92) -/

theorem test_decode_nop : decode (0b000000000000000000000000#24 ++ 0b00000000#8) = .instr .nop := by decide
theorem test_decode_init : decode (0b000000000000000000000000#24 ++ 0b00000001#8) = .instr .init := by decide
theorem test_decode_set_interval : decode (0b000000000000000000000000#24 ++ 0b00000010#8) = .instr .setInterval := by
  decide
theorem test_decode_refresh : decode (0b000000000000000000000000#24 ++ 0b00000011#8) = .instr .refresh := by decide
theorem test_decode_read_temp : decode (0b000000000000000000000000#24 ++ 0b00000100#8) = .instr .readTemp := by decide
theorem test_decode_read_pres : decode (0b000000000000000000000000#24 ++ 0b00000101#8) = .instr .readPres := by decide
theorem test_decode_read_hum : decode (0b000000000000000000000000#24 ++ 0b00000110#8) = .instr .readHum := by decide

/-- The illegal words of 95_test_vectors.md §2.2, and 0x107 of §3.3. -/
theorem test_decode_illegal : decode 0x00000007 = .reservedOpcode ∧ decode 0x000000FF = .reservedOpcode ∧
    decode 0x00000104 = .reservedFieldSet ∧ decode 0x80000000 = .reservedFieldSet ∧
    decode 0x00000107 = .reservedFieldSet := by decide

theorem test_table_word : decodeTableWord 32 5 = some .readPres ∧ decodeTableWord 32 7 = none := by decide

/-! ### Fixtures (95_test_vectors.md, "Common fixtures") -/

def calib24 : List Byte :=
  [0x70, 0x6B, 0x43, 0x67, 0x18, 0xFC, 0x7D, 0x8E, 0x43, 0xD6, 0xD0, 0x0B] ++
    [0x27, 0x0B, 0x8C, 0x00, 0xF9, 0xFF, 0x8C, 0x3C, 0xF8, 0xC6, 0x70, 0x17]

def hum7 : List Byte := [0x6A, 0x01, 0x00, 0x13, 0x29, 0x03, 0x1E]

def burst6 : List Byte := [0x65, 0x5A, 0xC0, 0x7E, 0xED, 0x00]

def burst8 : List Byte := burst6 ++ [0x75, 0x30]

/-- T and P of the fixtures, as the file lists them. -/
def tpFixture : TpCoeffs :=
  ⟨27504, 26435, BitVec.ofInt 16 (-1000), 36477, BitVec.ofInt 16 (-10685), 3024, 2855, 140, BitVec.ofInt 16 (-7), 15500,
    BitVec.ofInt 16 (-14600), 6000⟩

/-- H of the fixtures. -/
def humFixture : HumCoeffs := ⟨75, 362, 0, 313, 50, 30⟩

/-- A busy engine about to execute a command, with BUS's answers. -/
def busyWith (arg : BitVec 64) (i : Instr) (answers : List BusAnswer) (s : State) : State :=
  latched arg (encode i) (withBus answers s)

/-- READY in variant TP or TPH with the fixtures loaded and an empty cache. -/
def ready (v : Variant) : State :=
  { State.reset with
    port := { Port.reset with state := .ready, variant := v }
    store := ⟨true, tpFixture, humFixture⟩ }

/-- `ready` with the sample of burst8 taken at 1000. -/
def sampled (v : Variant) : State :=
  { ready v with cache := { SampleCache.reset with
    sampleValid := true, adcP := 415148, adcT := 519888, adcH := 30000, lastTs := 1000 } }

/-- `sampled` with every output of 95_test_vectors.md §3.2 cached. -/
def cached : State :=
  { sampled .tph with cache := { (sampled .tph).cache with
    tfineValid := true, tFine := 128422, tValid := true, tOut := 2508, pValid := true, pOut := 25767233
    hValid := true, hOut := 56317 } }

/-- One thing seen of a next state. -/
def seen {α : Type} (f : State → α) (o : Out) : Option α :=
  match o with
  | .next t => some (f t)
  | .fault _ => none
  | .refused _ => none

/-! ### The decoders (95_test_vectors.md §2.1, §2.3) -/

theorem test_decode_tp_fixture : decodeTp calib24 = tpFixture := by decide
theorem test_decode_h_fixture : decodeH 0x4B hum7 = humFixture := by decide

theorem test_h4_h5_rows : (decodeH4 0xF0 0x0A).toInt = -246 ∧ (decodeH5 0x80 0x0A).toInt = -2048 ∧
    (decodeH4 0x00 0x0F).toInt = 15 ∧ (decodeH5 0x00 0xF0).toInt = 15 ∧ (decodeH4 0x80 0x0F).toInt = -2033 ∧
    (decodeH5 0x7F 0x0F).toInt = 2032 := by decide

theorem test_pack_h45_rows : packH45 (BitVec.ofInt 12 (-2048)) 2047 = (0x80, 0xF0, 0x7F) ∧
    packH45 2047 (BitVec.ofInt 12 (-2048)) = (0x7F, 0x0F, 0x80) ∧ packH45 313 50 = (0x13, 0x29, 0x03) := by decide

theorem test_identity_rows : variantOf 0x58 = .tp ∧ variantOf 0x60 = .tph ∧ variantOf 0x61 = .none ∧
    variantOf 0xD8 = .none := by decide

theorem test_burst_rows : burstP [0x65, 0x5A, 0xCF, 0x7E, 0xED, 0x0F] = 415148 ∧
    burstT [0x65, 0x5A, 0xCF, 0x7E, 0xED, 0x0F] = 519888 ∧ burstH burst8 = 30000 := by decide

/-! ### The formulas (95_test_vectors.md §1.1, §2.4 to §2.6) -/

theorem test_shift_and_division_round : shr (-1) 4 = -1 ∧ shr (-17) 4 = -2 ∧ tdiv (-7) 2 = -3 := by decide

theorem test_tfine_worked_example : tfineVar1 519888 27504 26435 = 128793 ∧ tfineVar2 519888 27504 (-1000) = -371 ∧
    tfine 519888 27504 26435 (-1000) = 128422 ∧ temp 128422 = 2508 := by decide

theorem test_temp_corner_rows : tfine 0 27504 26435 (-1000) = -721301 ∧ temp (-721301) = -14088 ∧
    tfine 1048575 27504 26435 (-1000) = 960246 ∧ temp 960246 = 18755 := by decide

theorem test_pres_rows : presOf 128422 415148 tpFixture = some 25767233 ∧ presOf 128422 0 tpFixture = some 44339071 ∧
    presOf 128422 1048575 tpFixture = some (-1697504) ∧ presOf 128601 415148 tpFixture = some 25768611 := by decide

/-- The vector where truncating and flooring the quotient differ (§2.4.4). -/
theorem test_pres_truncates : presOf 128422 1047415 { tpFixture with p4 := 23909 } = some (-15826194) := by decide

theorem test_pres_sentinel : presOf 128422 415148 { tpFixture with p1 := 0 } = none := by decide

theorem test_hum_rows : humOf 128422 0 humFixture = 0 ∧ humOf 128422 30000 humFixture = 56317 ∧
    humOf 128422 0x8000 humFixture = 72045 ∧ humOf 128422 65535 humFixture = 102400 := by decide

/-- H1 and H3 are signed (90_conflicts.md C1; §2.6), and the rows at the extreme fine temperatures. -/
theorem test_hum_signed_and_extremes :
    humOf 128422 30000 { humFixture with h1 := BitVec.ofInt 8 (-128), h3 := BitVec.ofInt 8 (-128) } = 57407 ∧
      humOf (BitVec.ofInt 23 (-4194224)) 0 humFixture = 35811 ∧
      humOf (BitVec.ofInt 23 (-4194224)) 65535 humFixture = 0 ∧ humOf 4194144 0 humFixture = 0 ∧
      humOf 4194144 65535 humFixture = 102400 := by decide

/-! ### One step of each command (95_test_vectors.md §3; the rules' worked examples) -/

/-- NOP leaves RESULT alone and completes in FAILED too (R135, §3.5 step 3). -/
theorem test_nop_step :
    seen (fun t => (t.port.completion, t.port.result, t.port.state, t.port.busy))
      (step (busyWith 7 .nop [] { ready .tp with port := { Port.reset with state := .failed, result := 5 } })) =
      some (.ok, 5, .failed, false) := by decide

/-- §3.1 step 1. -/
theorem test_init_tp :
    seen (fun t => (t.port.completion, t.port.result, t.port.state, t.port.variant, t.port.chipId, t.store))
      (step (busyWith 0 .init [.bytes [0x58], .bytes calib24] State.reset)) =
      some (.ok, 0x58, .ready, .tp, 0x58, ⟨true, tpFixture, HumCoeffs.zero⟩) := by decide

/-- §3.2 step 1. -/
theorem test_init_tph :
    seen (fun t => (t.port.completion, t.port.result, t.port.variant, t.store.tp, t.store.hum, t.agents.history.length))
      (step (busyWith 0 .init [.bytes [0x60], .bytes calib24, .bytes [0x4B], .bytes hum7] State.reset)) =
      some (.ok, 0x60, .tph, tpFixture, humFixture, 4) := by decide

/-- R190's worked example, before INIT. -/
theorem test_set_interval :
    seen (fun t => (t.port.completion, t.port.result, t.interval, t.port.state))
      (step (busyWith 50 .setInterval [] State.reset)) = some (.ok, 50, 50, .uninit) := by decide

/-- §3.3 step 9: a first refresh converts; ADC_H is not written in TP. -/
theorem test_refresh_converts :
    seen (fun t => (t.port.completion, t.port.result, t.cache))
      (step (busyWith 30 .refresh [.ok, .bytes burst6] (ready .tp))) =
      some (.ok, 1, { SampleCache.reset with sampleValid := true, adcP := 415148, adcT := 519888, lastTs := 30 }) := by
  decide

/-- §2.5: a clock that went back is fresh, and 201 ms later is not: the engine asks BUS. -/
theorem test_refresh_staleness :
    seen (fun t => (t.port.completion, t.port.result, t.port.busy)) (step (busyWith 999 .refresh [] (sampled .tp))) =
        some (.ok, 0, false) ∧
      seen (fun t => (t.port.busy, t.port.pending)) (step (busyWith 1201 .refresh [] (sampled .tp))) =
        some (true, some (.control .refresh)) := by decide

/-- §3.1 step 2. -/
theorem test_read_temp_converts :
    seen (fun t => (t.port.completion, t.port.result, t.cache.tFine, t.cache.tOut, t.cache.lastTs))
      (step (busyWith 1000 .readTemp [.ok, .bytes burst6] (ready .tp))) = some (.ok, 2508, 128422, 2508, 1000) := by
  decide

/-- §3.3 step 1. -/
theorem test_read_temp_before_init :
    seen (fun t => (t.port.completion, t.port.result)) (step (busyWith 0 .readTemp [] State.reset)) =
      some (.notReady, 0) := by decide

/-- §3.1 step 3: fresh at 1100, no bus event. -/
theorem test_read_pres :
    seen (fun t => (t.port.completion, t.port.result, t.cache.pOut, t.cache.pUndef, t.agents.history))
      (step (busyWith 1100 .readPres [] (sampled .tp))) = some (.ok, 25767233, 25767233, false, []) := by decide

/-- §3.4 step 2: P1 = 0. -/
theorem test_read_pres_sentinel :
    seen (fun t => (t.port.completion, t.port.result, t.cache.tFine, t.cache.pOut, t.cache.pUndef, t.cache.pValid))
      (step (busyWith 1100 .readPres []
        { sampled .tp with store := { (sampled .tp).store with tp := { tpFixture with p1 := 0 } } })) =
      some (.undefinedResult, 0, 128422, 0, true, true) := by decide

/-- §3.2 step 2. -/
theorem test_read_hum_converts :
    seen (fun t => (t.port.completion, t.port.result, t.cache.adcH, t.cache.hOut, t.cache.hValid, t.cache.tValid))
      (step (busyWith 5000 .readHum [.ok, .bytes burst8] (ready .tph))) =
      some (.ok, 56317, 30000, 56317, true, false) := by decide

/-- §3.1 step 4: RESULT unchanged, no bus event. -/
theorem test_read_hum_unsupported :
    seen (fun t => (t.port.completion, t.port.result, t.agents.history))
      (step (busyWith 1150 .readHum [] { sampled .tp with port := { (sampled .tp).port with result := 25767233 } })) =
      some (.unsupportedOperation, 25767233, []) := by decide

/-- STATUS of the end states of §3.1, §3.2 and §3.5. -/
theorem test_status_words :
    status { sampled .tp with cache := { (sampled .tp).cache with tfineValid := true, tValid := true } } =
        0x000001EA ∧
      status { sampled .tph with cache := { (sampled .tph).cache with
        tfineValid := true, pValid := true, hValid := true } } = 0x00000AF2 ∧
      status { State.reset with port := { Port.reset with state := .failed } } = 0x00000004 := by decide

/-- What the host's word check places is executed at once from reset: READ_TEMP completes NOT_READY (R324). -/
theorem test_fetch_word : seen (fun t => (t.port.completion, t.port.busy)) (step (State.reset.withFetchWord 32 4)) =
    some (.notReady, false) := by decide

/-! ### Witnesses: for each obligation with hypotheses, a state and operands that meet all of them -/

/-- The invariant of an engine with no open request. -/
theorem invariant_of_no_request {s : State} (c : CacheInvariant s) (v : VariantInvariant s)
    (p : s.port.pending = none) : EngineInvariant s :=
  ⟨c, v, fun q hq => by rw [p] at hq; cases hq⟩

/-- An engine that has latched a raw command word. -/
def busyOn (cmd : CmdWord) : State := latched 0 cmd State.reset

theorem witness_IllegalWordWritesOnlyItsCode :
    (∀ w, (busyOn w).port.busy = true ∧ (busyOn w).port.pending = none) ∧
    (busyOn 0x00000100#32).port.cmd.extractLsb' 8 24 ≠ 0#24 ∧
    0x06 < ((busyOn 0x00000007#32).port.cmd.extractLsb' 0 8).toNat ∧
    decode (busyOn 0x00000006#32).port.cmd = .instr .readHum :=
  ⟨fun _ => ⟨rfl, rfl⟩, by decide, by decide, by decide⟩

theorem witness_StepRunsTheLatchedCommand :
    (busyOn 0x00000006#32).port.busy = true ∧ (busyOn 0x00000006#32).port.pending = none ∧
      decode (busyOn 0x00000006#32).port.cmd = .instr .readHum := by decide

/-- The host issues READ_PRES with the largest ARG, then resets. -/
def hostState : State := { ready .tp with agents := ⟨[.issue 0xFFFFFFFFFFFFFFFF#64 (encode .readPres), .reset], [], []⟩ }

/-- A legal word and the first illegal one. -/
theorem witness_IssuedCommandIsExecutedWithItsArg : hostState.port.busy = false ∧
    hostState.agents.host = .issue 0xFFFFFFFFFFFFFFFF#64 (encode .readPres) :: [.reset] ∧
    decode (encode .readPres) = .instr .readPres ∧
    ({ hostState with agents := ⟨[.issue 0 0x00000007#32], [], []⟩ } : State).agents.host =
      .issue 0 0x00000007#32 :: [] ∧
    decode 0x00000007#32 = .reservedOpcode := by decide

theorem witness_TpCoefficientsLittleEndian : calib24.length = 24 := by decide

theorem witness_HumidityCoefficientValues : hum7.length = 7 := by decide

theorem witness_BurstUnpackValues : 6 ≤ burst6.length ∧ burst8.length = 8 := by decide

/-- The largest T_FINE that R232 reaches, and both ends of the count. -/
theorem witness_PressureDatapathWidths :
    presOf 4194144 0 tpFixture ≠ none ∧ presOf 4194144 1048575 tpFixture ≠ none := by decide

theorem witness_OutputRegistersHoldExactResults : presOf 128422 1048575 tpFixture = some (-1697504) := by decide

/-- The boundary of R236 at P1 = 1: a shifted product of 0 is undefined, of 2^33 is not, nor is one below 0. -/
theorem witness_PressureUndefinedExactlyAtZeroDivisor :
    presDivisor (2 ^ 20 + 128000) 1 (-32768) 0 = 0 ∧ presDivisor (2 ^ 20 - 2 ^ 6 + 128000) 1 (-32768) 0 = 1 ∧
      presDivisor (2 ^ 20 + 1 + 128000) 1 (-32768) 0 = -1 ∧ presDivisor 128422 0 (-10685) 3024 = 0 := by decide

theorem witness_TemperatureEqualsReferenceInDomain :
    InTemperatureDomain (519888#20).toNat tpFixture.t1.toNat tpFixture.t2.toInt tpFixture.t3.toInt := by
  unfold InTemperatureDomain fitSigned
  decide

theorem witness_PressureEqualsReferenceInDomain :
    InPressureDomain (128422#23).toInt (415148#20).toNat tpFixture.p1.toNat tpFixture.p2.toInt tpFixture.p3.toInt
      tpFixture.p4.toInt tpFixture.p5.toInt tpFixture.p6.toInt tpFixture.p7.toInt tpFixture.p8.toInt
      tpFixture.p9.toInt := by
  refine ⟨by unfold fitSigned; decide, fun r h => ?_⟩
  have hr : some r = some 25767233 := h.symm.trans (show presOf 128422 415148 tpFixture = _ by decide)
  cases hr
  exact ⟨by unfold fitSigned; decide, by decide, by decide⟩

theorem witness_HumidityEqualsReferenceInDomain :
    InHumidityDomain (128422#23).toInt (30000#16).toNat humFixture.h1.toInt humFixture.h2.toInt humFixture.h3.toInt
      humFixture.h4.toInt humFixture.h5.toInt humFixture.h6.toInt := by
  unfold InHumidityDomain fitSigned
  decide

theorem witness_InitLoadsTpDevice :
    let s := withBus [.bytes [0x58], .bytes calib24] State.reset
    s.port.state = .uninit ∧ calib24.length = 24 ∧ s.agents.bus = .bytes [0x58] :: .bytes calib24 :: [] := by decide

theorem witness_InitLoadsTphDevice :
    let s := withBus [.bytes [0x60], .bytes calib24, .bytes [0x4B], .bytes hum7] State.reset
    s.port.state = .uninit ∧ calib24.length = 24 ∧ hum7.length = 7 ∧
      s.agents.bus = .bytes [0x60] :: .bytes calib24 :: .bytes [0x4B] :: .bytes hum7 :: [] := by decide

theorem witness_InitFailsOnUnrecognizedDevice :
    let s := withBus [.bytes [0x61]] State.reset
    s.port.state = .uninit ∧ variantOf 0x61 = .none ∧ s.agents.bus = .bytes [0x61] :: [] ∧ EngineInvariant s :=
  ⟨rfl, rfl, rfl, invariant_of_no_request (by decide) (by decide) rfl⟩

/-- Each of the four reads answered by `CommErr`. -/
theorem witness_InitCommErrWritesOnlyCompletion :
    State.reset.port.state = .uninit ∧ calib24.length = 24 ∧ variantOf 0x58 ≠ .none ∧ variantOf 0x60 = .tph ∧
      (withBus [.commErr] State.reset).agents.bus = .commErr :: [] ∧
      (withBus [.bytes [0x58], .commErr] State.reset).agents.bus = .bytes [0x58] :: .commErr :: [] ∧
      (withBus [.bytes [0x60], .bytes calib24, .commErr] State.reset).agents.bus =
        .bytes [0x60] :: .bytes calib24 :: .commErr :: [] ∧
      (withBus [.bytes [0x60], .bytes calib24, .bytes [0x4B], .commErr] State.reset).agents.bus =
        .bytes [0x60] :: .bytes calib24 :: .bytes [0x4B] :: .commErr :: [] := by decide

/-- A failed engine that executes INIT. -/
def failedState : State :=
  latched 0 (encode .init) { State.reset with port := { Port.reset with state := .failed, chipId := 0x61 } }

theorem witness_InitRejectedAndFailedIsFinal : (ready .tp).port.state = .ready ∧
    EngineInvariant failedState ∧ NoResetNext failedState ∧ failedState.port.state = .failed ∧
    ∃ t, step failedState = .next t :=
  ⟨rfl, invariant_of_no_request (by decide) (by decide) rfl, by decide, rfl, _, rfl⟩

/-- The state in which a command with this ARG finds the sample of 1000 in a TPH device. -/
def atTime (now : BitVec 64) (answers : List BusAnswer) : State := busyWith now .readHum answers (sampled .tph)

theorem witness_FreshSampleCausesNoBusActivity : Instr.readHum.reader? = some .hum ∧
    SampleFresh (atTime 1200 []).port.arg (atTime 1200 []) ∧ ∃ t, exec .readHum (atTime 1200 []) = .next t :=
  ⟨rfl, by decide, _, rfl⟩

theorem witness_RefreshReusesOrLoadsTheSample :
    (atTime 1200 []).port.state = .ready ∧ SampleFresh (atTime 1200 []).port.arg (atTime 1200 []) ∧
      ¬SampleFresh (atTime 1201 []).port.arg (atTime 1201 []) ∧
      (atTime 1201 [.ok, .bytes burst8]).agents.bus = .ok :: .bytes burst8 :: [] ∧
      burst8.length = burstLength (atTime 1201 []).port.variant ∧ burst6.length = burstLength (ready .tp).port.variant := by
  decide

theorem witness_FailedRefreshKeepsTheCache : Instr.readHum.reader? = some .hum ∧
    (atTime 1201 []).port.state = .ready ∧ (atTime 1201 []).port.variant = .tph ∧
    ¬SampleFresh (atTime 1201 []).port.arg (atTime 1201 []) ∧
    (atTime 1201 [.commErr]).agents.bus = .commErr :: [] ∧
    (atTime 1201 [.ok, .commErr]).agents.bus = .ok :: .commErr :: [] := by decide

theorem witness_NoSecondConversionWithinInterval :
    ∃ t v, exec .readHum (atTime 1201 [.ok, .bytes burst8]) = .next t ∧ t.port.busy = false ∧
      t.port.completion.isError = false ∧
      t.agents.history ≠ (atTime 1201 [.ok, .bytes burst8]).agents.history ∧
      (atTime 1201 [.ok, .bytes burst8]).port.arg.toNat ≤ (1401#64).toNat ∧
      (1401#64).toNat - (atTime 1201 [.ok, .bytes burst8]).port.arg.toNat ≤ t.interval.toNat ∧
      exec .refresh (latched 1401 (encode .refresh) t) = .next v :=
  ⟨_, _, rfl, rfl, rfl, List.cons_ne_nil _ _, by decide, by decide,
    rfl⟩

theorem witness_StaleCommandConvertsExactlyOnce : Instr.readHum.reader? = some .hum ∧
    (atTime 1201 [.commErr]).port.state = .ready ∧ (atTime 1201 [.commErr]).port.variant = .tph ∧
    ¬SampleFresh (atTime 1201 [.commErr]).port.arg (atTime 1201 [.commErr]) ∧
    (∃ t, exec .readHum (atTime 1201 [.commErr]) = .next t ∧ t.port.busy = false) ∧
    ∃ t, exec .readHum (atTime 1201 [.ok, .bytes burst8]) = .next t ∧ t.port.busy = false :=
  ⟨rfl, rfl, rfl, by decide, ⟨_, rfl, rfl⟩, ⟨_, rfl, rfl⟩⟩

/-- Each clause of the staleness corners, at LAST_TS = 1000 and INTERVAL = 200 (§2.5). -/
theorem witness_StalenessCorners :
    (atTime 999 []).port.state = .ready ∧ (atTime 999 []).agents.bus = [] ∧
      (ready .tp).cache.sampleValid = false ∧ (atTime 999 []).cache.sampleValid = true ∧
      (atTime 999 []).port.arg.toNat < (atTime 999 []).cache.lastTs.toNat ∧
      (atTime 1200 []).port.arg.toNat = (atTime 1200 []).cache.lastTs.toNat + (atTime 1200 []).interval.toNat ∧
      (atTime 1201 []).port.arg.toNat = (atTime 1201 []).cache.lastTs.toNat + (atTime 1201 []).interval.toNat + 1 ∧
      ({ atTime 1201 [] with interval := 0xFFFFFFFFFFFFFFFF#64 } : State).interval.toNat = 2 ^ 64 - 1 := by decide

/-- Both ways of obtaining the sample, T_FINE valid and not. -/
theorem witness_ReadTempComputesTemperature : (atTime 1200 []).port.state = .ready ∧
    SampleObtained (atTime 1200 []) (atTime 1200 []) ∧
    SampleObtained (atTime 1201 [.ok, .bytes burst8])
      (afterConversion burst8 [] (atTime 1201 [.ok, .bytes burst8])) ∧
    (atTime 1200 []).cache.tValid = false ∧ (atTime 1200 []).cache.tfineValid = false ∧
    (afterConversion burst8 [] (atTime 1201 [.ok, .bytes burst8])).cache.tValid = false :=
  ⟨rfl, .inl ⟨by decide, rfl⟩, .inr ⟨by decide, burst8, [], rfl, rfl, rfl⟩, rfl, rfl, rfl⟩

theorem witness_ReadPresComputesPressure : (atTime 1200 []).port.state = .ready ∧
    SampleObtained (atTime 1200 []) (atTime 1200 []) ∧
    (atTime 1200 []).cache.pValid = false ∧ presOf 128422 415148 tpFixture = some 25767233 ∧
    presOf 128422 415148 { tpFixture with p1 := 0 } = none :=
  ⟨rfl, .inl ⟨by decide, rfl⟩, rfl, by decide, by decide⟩

/-- With T_FINE already valid. -/
theorem witness_ReadHumComputesHumidity :
    let s := { cached with cache := { cached.cache with hValid := false } }
    s.port.state = .ready ∧ s.port.variant = .tph ∧ SampleObtained s s ∧
      s.cache.hValid = false ∧ s.cache.tfineValid = true :=
  ⟨rfl, rfl, .inl ⟨by decide, rfl⟩, rfl, rfl⟩

theorem witness_AccessorsReturnCachedOutputs : cached.port.state = .ready ∧ SampleFresh cached.port.arg cached ∧
    cached.cache.tValid = true ∧ cached.cache.pValid = true ∧ cached.cache.pUndef = false ∧
    cached.port.variant = .tph ∧ cached.cache.hValid = true ∧
    ({ cached with cache := { cached.cache with pUndef := true } } : State).cache.pUndef = true := by decide

theorem witness_ReadHumUnsupportedInTp : (ready .tp).port.state = .ready ∧ (ready .tp).port.variant = .tp := by decide

theorem witness_ReadersNotReadyOutsideReady : Instr.refresh.reader? = some .refresh ∧
    State.reset.port.state ≠ .ready ∧ failedState.port.state ≠ .ready := by decide

theorem witness_AccessorsAreIdempotent :
    ∃ t, exec .readPres (atTime 1200 []) = .next t ∧ t.port.busy = false ∧ t.port.completion.isError = false ∧
      SampleFresh 1200 t :=
  ⟨_, rfl, rfl, rfl, by decide⟩

/-- Both classes of error. -/
theorem witness_ErrorsLeaveNoPartialUpdate :
    (∃ t, step (atTime 1201 [.ok, .commErr]) = .next t ∧ t.port.busy = false ∧
      t.port.completion.isError = true ∧ t.port.completion ≠ .unrecognizedDevice) ∧
    ∃ t, step (busyWith 0 .init [.bytes [0x61]] State.reset) = .next t ∧ t.port.busy = false ∧
      t.port.completion.isError = true ∧ t.port.completion = .unrecognizedDevice :=
  ⟨⟨_, rfl, rfl, rfl, by decide⟩, ⟨_, rfl, rfl, rfl, rfl⟩⟩

theorem witness_CalibrationImmutableUntilReset : EngineInvariant (atTime 1200 []) ∧ NoResetNext (atTime 1200 []) ∧
    (atTime 1200 []).store.calibValid = true ∧ ∃ t, step (atTime 1200 []) = .next t :=
  ⟨invariant_of_no_request (by decide) (by decide) rfl, by decide, rfl, _, rfl⟩

/-- Each of the four codes. -/
theorem witness_EarlyChecksIssueNoBusEvent :
    (∃ t, step (busyOn 7) = .next t ∧ t.port.busy = false ∧ t.port.completion = .illegalCommand) ∧
    (∃ t, step failedState = .next t ∧ t.port.busy = false ∧ t.port.completion = .notReady) ∧
    (∃ t, step (busyWith 0 .init [] (ready .tp)) = .next t ∧ t.port.busy = false ∧
      t.port.completion = .alreadyInitialized) ∧
    ∃ t, step (busyWith 0 .readHum [] (ready .tp)) = .next t ∧ t.port.busy = false ∧
      t.port.completion = .unsupportedOperation :=
  ⟨⟨_, rfl, rfl, rfl⟩, ⟨_, rfl, rfl, rfl⟩, ⟨_, rfl, rfl, rfl⟩, ⟨_, rfl, rfl, rfl⟩⟩

theorem witness_CommErrEndsTheCommandAtOnce :
    (∃ t, step (atTime 1201 [.ok, .commErr]) = .next t ∧ t.port.busy = false ∧
      t.port.completion = .communicationError) ∧
    (∃ t, step (atTime 1201 [.ok, .bytes burst8]) = .next t ∧ t.port.busy = false ∧
      t.port.completion ≠ .communicationError) ∧
    ∃ t, step (atTime 1201 [.ok]) = .next t ∧ t.port.busy = true :=
  ⟨⟨_, rfl, rfl, rfl⟩, ⟨_, rfl, rfl, by decide⟩, ⟨_, rfl, rfl⟩⟩

theorem witness_StepKeepsEngineInvariant : EngineInvariant cached ∧ ∃ t, step cached = .next t :=
  ⟨invariant_of_no_request (by decide) (by decide) rfl, _, rfl⟩

theorem witness_StepKeepsCacheCoherent : EngineInvariant cached ∧ CacheCoherent cached ∧ ∃ t, step cached = .next t :=
  ⟨invariant_of_no_request (by decide) (by decide) rfl, by unfold CacheCoherent; decide, _, rfl⟩

theorem witness_StepAddsOnlyLawfulBusEvents : ∃ t, step (atTime 1201 [.ok, .bytes burst8]) = .next t := ⟨_, rfl⟩

theorem witness_BusyEngineNeverFaults : (atTime 1200 []).port.busy = true := rfl

/-- Other contents where the engine holds no value: an output not computed yet, and its step completes. -/
theorem witness_StepIgnoresRegistersWithNoValue :
    EngineInvariant (atTime 1200 []) ∧ LatchedIsIssued (atTime 1200 []) ∧
      (withNoValues cached (atTime 1200 [])).cache.tOut = 2508 ∧ (atTime 1200 []).cache.tOut = 0 ∧
      (withNoValues State.reset (atTime 1200 [])).cache.adcT = 519888 ∧ ∃ t, step (atTime 1200 []) = .next t :=
  ⟨invariant_of_no_request (by decide) (by decide) rfl, fun _ => rfl, rfl, rfl, rfl, _, rfl⟩

/-- A command that waits, one that completes, and one that meets an answer of the wrong form. -/
theorem witness_CommandCompletesWhenBusAnswers :
    (∀ l, (atTime 1201 l).port.busy = true) ∧
      (∃ t, step (atTime 1201 [.ok]) = .next t ∧ t.port.busy = true) ∧
      (∃ t, step (atTime 1201 [.ok, .bytes burst8]) = .next t ∧ t.port.busy = false) ∧
      step (atTime 1201 [.bytes burst8]) = .refused .notAnAnswer :=
  ⟨fun _ => rfl, ⟨_, rfl, rfl⟩, ⟨_, rfl, rfl⟩, rfl⟩

/-- A command that completes and one that waits. -/
theorem witness_CommandsIgnoreEarlierCodes :
    (atTime 1201 []).port.busy = true ∧ (∃ t, step (atTime 1200 []) = .next t ∧ t.port.busy = false) ∧
      ∃ t, step (atTime 1201 []) = .next t ∧ t.port.busy = true := ⟨rfl, ⟨_, rfl, rfl⟩, ⟨_, rfl, rfl⟩⟩

theorem witness_UnansweredRequestLeavesEngineStuck :
    let s := { atTime 1201 [] with port := { (atTime 1201 []).port with pending := some (.burst .hum) } }
    s.port.busy = true ∧ s.port.pending = some (.burst .hum) ∧ s.agents.bus = [] := by decide

theorem witness_WaitingForAnswersIsInvisible :
    (atTime 1201 []).port.busy = true ∧
      ∃ t, step (withBus [.ok] (atTime 1201 [])) = .next t ∧ t.port.busy = true := ⟨rfl, _, rfl, rfl⟩

theorem witness_HostResetRestoresEveryRegister :
    let s := { cached with agents := ⟨[.reset], [], [settleEvent]⟩ }
    s.port.busy = false ∧ s.agents.host = .reset :: [] := ⟨rfl, rfl⟩

/-- Each kind of read that stops, and reads that answer. -/
theorem witness_HostReadStopsOnlyWhereForbidden :
    let waitsForTemp := { cached with cache := { cached.cache with tValid := false } }
    (ready .tp).port.busy = false ∧ (ready .tp).port.variant = .tp ∧ Reg.h1 ∈ [Reg.h1, .h2, .h3, .h4, .h5, .h6, .adcH] ∧
      waitsForTemp.cache.sampleValid = true ∧ waitsForTemp.cache.tValid = false ∧
      (ready .tp).cache.sampleValid = false ∧ holdsValue .tOut cached = true := by decide

/-- R300: after NOP with ARG = 9 the host reads ARG back, and right after reset it reads CHIP_ID (log entry 1). -/
theorem test_host_reads_arg : seen (fun t => t.port.arg) (step (busyWith 9 .nop [] State.reset)) = some 9 ∧
    hostRead .arg (raise .ok (busyWith 9 .nop [] State.reset)) = .next 9 ∧
    step { State.reset with agents := ⟨[.read .chipId], [], []⟩ } = .next State.reset := ⟨by decide, rfl, rfl⟩

/-- R43, R36: an output that a refresh has invalidated, and a humidity register in variant TP. -/
theorem test_host_read_stops : hostRead .tOut (sampled .tph) = .fault (.readOfUncomputedValue .tOut) ∧
    hostRead .h3 (ready .tp) = .fault (.readOfAbsentRegister .h3) ∧ hostRead .h3 (ready .tph) = .next 0 := by
  refine ⟨rfl, rfl, rfl⟩

theorem witness_BusyEngineRefusesTheHost : (atTime 1201 []).port.busy = true := by decide

end Sys2Proof.Tests
end

namespace Sys2Proof.Machine

/-! SUPPORT. What one step can do, said once, in the form of the rules of Laws/Ops: the moves of an idle engine, and the
choice step makes. -/

/-- What an idle engine can do (R139, R300): rest, or take HOST's next action. -/
theorem idle_rule {Q : Out → Prop} {s : State} (hb : s.port.busy = false)
    (rests : s.agents.host = [] → Q (.next s))
    (issued : ∀ arg cmd rest, s.agents.host = .issue arg cmd :: rest →
      Q (.next (latched arg cmd (takeAction rest s))))
    (reset : ∀ rest, s.agents.host = .reset :: rest → Q (.next (resetRegisters (takeAction rest s))))
    (seen : ∀ r rest, s.agents.host = .read r :: rest → Q (.next (takeAction rest s)))
    (fault : ∀ f, Q (.fault f)) (refused : ∀ q, Q (.refused q)) : Q (idle s) := by
  unfold idle
  split
  case h_1 hnone => exact rests hnone
  case h_2 a rest hnext =>
    apply hostMove_rule (s := takeAction rest s) hb
    · rintro arg cmd rfl
      exact issued arg cmd rest hnext
    · rintro rfl
      exact reset rest hnext
    · rintro r rfl
      exact seen r rest hnext
    · exact fault
    · exact refused

/-- The four things a step is (R24, R131, R133, R301): a move of HOST, a waiting command going on, the latched command,
or an illegal word. -/
theorem step_rule {Q : Out → Prop} {s : State}
    (idles : s.port.busy = false → Q (idle s))
    (resumes : ∀ p, s.port.busy = true → s.port.pending = some p → Q (resume p s))
    (executes : ∀ i, s.port.busy = true → s.port.pending = none → decode s.port.cmd = .instr i → Q (exec i s))
    (illegal : s.port.busy = true → s.port.pending = none → (decode s.port.cmd).instr? = none →
      Q (illegalCommand s)) : Q (step s) := by
  unfold step
  split
  case h_1 hb => exact idles hb
  case h_2 hb =>
    split
    case h_1 p hp => exact resumes p hb hp
    case h_2 hp =>
      split
      case h_1 i hi => exact executes i hb hp hi
      case h_2 hi => exact illegal hb hp (by rw [hi]; rfl)
      case h_3 hi => exact illegal hb hp (by rw [hi]; rfl)

/-! SUPPORT. The registers R37 protects: VARIANT and the Calibration Store. No operation but INIT's commit and reset
writes one of them. -/

/-- VARIANT and the whole Calibration Store are the same in t as in s (R37). -/
def SameCalibration (s t : State) : Prop := t.store = s.store ∧ t.port.variant = s.port.variant

/-- Every next state the outcome answers has the VARIANT and the Calibration Store of s (R37). -/
def KeepsCalibration (s : State) (o : Out) : Prop := ∀ t, o = .next t → SameCalibration s t

theorem keepsCalibration_next {s t : State} (h : SameCalibration s t) : KeepsCalibration s (.next t) := by
  rintro _ ⟨⟩
  exact h

theorem keepsCalibration_fault (s : State) (f : Fault) : KeepsCalibration s (.fault f) := by
  intro t ht
  cases ht

theorem keepsCalibration_refused (s : State) (q : Refusal) : KeepsCalibration s (.refused q) := by
  intro t ht
  cases ht

/-- A part of a command may start in any state with the same VARIANT and Calibration Store. -/
theorem KeepsCalibration.of_same {s u : State} {o : Out} (ho : KeepsCalibration u o) (h : SameCalibration s u) :
    KeepsCalibration s o := by
  intro t ht
  obtain ⟨hstore, hvariant⟩ := ho t ht
  exact ⟨hstore.trans h.1, hvariant.trans h.2⟩

/-! The operations -/

theorem ensureTFine_keepsCalibration {k : BitVec 23 → State → Out} {s : State}
    (hk : ∀ tf u, KeepsCalibration u (k tf u)) : KeepsCalibration s (ensureTFine k s) :=
  ensureTFine_rule (fun _ => hk _ s) (fun _ => (hk _ _).of_same ⟨loadTFine_store s, by rw [loadTFine_port]⟩)

theorem readBurst_keepsCalibration {r : Reader} {k : Bool → State → Out} {s : State}
    (hk : ∀ b u, KeepsCalibration u (k b u)) : KeepsCalibration s (readBurst r k s) := by
  apply readBurst_rule
  case waits => exact fun _ => keepsCalibration_next ⟨by simp, by simp⟩
  case fails => exact fun _ _ => keepsCalibration_next ⟨by simp, by simp⟩
  case answers => exact fun _ _ _ _ => (hk _ _).of_same ⟨by simp, by simp⟩
  case wrong => exact keepsCalibration_refused s _

theorem convert_keepsCalibration {r : Reader} {k : Bool → State → Out} {s : State}
    (hk : ∀ b u, KeepsCalibration u (k b u)) : KeepsCalibration s (convert r k s) := by
  apply convert_rule
  case waits => exact fun _ => keepsCalibration_next ⟨by simp, by simp⟩
  case fails => exact fun _ _ => keepsCalibration_next ⟨by simp, by simp⟩
  case answers => exact fun _ _ => (readBurst_keepsCalibration hk).of_same ⟨by simp, by simp⟩
  case wrong => exact keepsCalibration_refused s _

theorem ensureFresh_keepsCalibration {r : Reader} {k : Bool → State → Out} {s : State}
    (hk : ∀ b u, KeepsCalibration u (k b u)) : KeepsCalibration s (ensureFresh r k s) :=
  ensureFresh_rule (fun _ => hk _ s) (fun _ => convert_keepsCalibration hk)

/-! The commands -/

theorem raise_sameCalibration (c : Completion) (s : State) : SameCalibration s (raise c s) :=
  ⟨raise_store c s, raise_variant c s⟩

theorem complete_sameCalibration (c : Completion) (v : Int) (s : State) : SameCalibration s (complete c v s) :=
  ⟨complete_store c v s, complete_variant c v s⟩

theorem completePres_sameCalibration (s : State) : SameCalibration s (completePres s) := by
  unfold completePres
  split
  · exact complete_sameCalibration _ _ s
  · exact complete_sameCalibration _ _ s

theorem raise_keepsCalibration (c : Completion) (s : State) : KeepsCalibration s (.next (raise c s)) :=
  keepsCalibration_next (raise_sameCalibration c s)

theorem finishTemp_keepsCalibration (b : Bool) (s : State) : KeepsCalibration s (finishTemp b s) := by
  unfold finishTemp
  split
  · exact keepsCalibration_next (complete_sameCalibration _ _ s)
  · exact ensureTFine_keepsCalibration fun tf u => keepsCalibration_next (complete_sameCalibration _ _ (loadTOut tf u))

theorem finishPres_keepsCalibration (b : Bool) (s : State) : KeepsCalibration s (finishPres b s) := by
  unfold finishPres
  split
  · exact keepsCalibration_next (completePres_sameCalibration s)
  · exact ensureTFine_keepsCalibration fun tf u => keepsCalibration_next (completePres_sameCalibration (loadPOut tf u))

theorem finishHum_keepsCalibration (b : Bool) (s : State) : KeepsCalibration s (finishHum b s) := by
  unfold finishHum
  split
  · exact keepsCalibration_next (complete_sameCalibration _ _ s)
  · exact ensureTFine_keepsCalibration fun tf u => keepsCalibration_next (complete_sameCalibration _ _ (loadHOut tf u))

theorem finish_keepsCalibration (r : Reader) (b : Bool) (s : State) : KeepsCalibration s (finish r b s) := by
  cases r with
  | refresh => exact keepsCalibration_next (complete_sameCalibration _ _ s)
  | temp => exact finishTemp_keepsCalibration b s
  | pres => exact finishPres_keepsCalibration b s
  | hum => exact finishHum_keepsCalibration b s

/-- In READY, INIT is rejected before its first read (R153), and no other command writes VARIANT or the store. -/
theorem exec_keepsCalibration {s : State} (i : Instr) (hready : s.port.state = .ready) :
    KeepsCalibration s (exec i s) := by
  cases i with
  | nop => exact raise_keepsCalibration _ s
  | init =>
    simp only [exec, execInit, hready]
    exact raise_keepsCalibration _ s
  | setInterval => exact keepsCalibration_next (complete_sameCalibration _ _ (setInterval _ s))
  | refresh =>
    simp only [exec, execRefresh, hready, if_true]
    exact ensureFresh_keepsCalibration (finish_keepsCalibration .refresh)
  | readTemp =>
    simp only [exec, execReadTemp, hready, if_true]
    exact ensureFresh_keepsCalibration finishTemp_keepsCalibration
  | readPres =>
    simp only [exec, execReadPres, hready, if_true]
    exact ensureFresh_keepsCalibration finishPres_keepsCalibration
  | readHum =>
    simp only [exec, execReadHum, hready, if_true]
    split
    · exact ensureFresh_keepsCalibration finishHum_keepsCalibration
    · exact raise_keepsCalibration _ s

/-- In READY no read of INIT is open, so a waiting command can only be in a refresh (R301). -/
theorem resume_keepsCalibration {s : State} {p : Pending} (hready : s.port.state = .ready) (hp : p.lawful s = true) :
    KeepsCalibration s (resume p s) := by
  cases p with
  | control r => exact convert_keepsCalibration (finish_keepsCalibration r)
  | burst r => exact readBurst_keepsCalibration (finish_keepsCalibration r)
  | identity => simp [Pending.lawful, hready] at hp
  | calibration id => simp [Pending.lawful, hready] at hp
  | humidityFirst id c => simp [Pending.lawful, hready] at hp
  | humidityRest id c a => simp [Pending.lawful, hready] at hp

/-- HOST writes VARIANT or the store by a reset only (R37, R300). -/
theorem idle_keepsCalibration {s : State} (hb : s.port.busy = false) (hreset : s.agents.host.head? ≠ some .reset) :
    KeepsCalibration s (idle s) := by
  apply idle_rule hb
  case rests => exact fun _ => keepsCalibration_next ⟨rfl, rfl⟩
  case issued => exact fun _ _ _ _ => keepsCalibration_next ⟨by simp, by simp⟩
  case reset =>
    intro rest hnext
    simp [hnext] at hreset
  case seen => exact fun _ _ _ => keepsCalibration_next ⟨by simp, by simp⟩
  case fault => exact keepsCalibration_fault s
  case refused => exact keepsCalibration_refused s

/-- The invariant makes CALIB_VALID = 1 the state READY (R43). -/
theorem EngineInvariant.ready_of_calibValid {s : State} (hinv : EngineInvariant s) (hc : s.store.calibValid = true) :
    s.port.state = .ready := by
  obtain ⟨⟨-, -, -, -, -, hcalib⟩, -, -⟩ := hinv
  exact hcalib.mp hc

/-- A waiting command's open request is one it can have reached (R301). -/
theorem EngineInvariant.pending_lawful {s : State} {p : Pending} (hinv : EngineInvariant s)
    (hp : s.port.pending = some p) : p.lawful s = true := by
  obtain ⟨-, -, hpending⟩ := hinv
  exact (hpending p hp).2

/-- Settles O42: with CALIB_VALID = 1 the engine is in READY, where INIT is rejected and no request of INIT is open;
nothing else but reset writes VARIANT or the store. -/
theorem calibrationImmutableUntilReset : Obligations.CalibrationImmutableUntilReset := by
  intro s t hinv hreset hcalib hstep
  have hready := hinv.ready_of_calibValid hcalib
  have hkeeps : KeepsCalibration s (step s) := by
    apply step_rule
    case idles => exact fun hb => idle_keepsCalibration hb (hreset hb)
    case resumes => exact fun p _ hp => resume_keepsCalibration hready (hinv.pending_lawful hp)
    case executes => exact fun i _ _ _ => exec_keepsCalibration i hready
    case illegal => exact fun _ _ _ => raise_keepsCalibration _ s
  exact hkeeps t hstep

/-! SUPPORT. STATUS as a concatenation: which part of it each bit and field of R32 falls in. -/

@[simp] theorem flagBit_getLsbD_zero (b : Bool) : (flagBit b).getLsbD 0 = b := by
  cases b <;> rfl

/-- The single-bit state, one flag to a bit (R32). -/
theorem status_flags (s : State) :
    (status s).getLsbD 0 = s.port.busy ∧ (status s).getLsbD 5 = s.store.calibValid ∧
      (status s).getLsbD 6 = s.cache.sampleValid ∧ (status s).getLsbD 7 = s.cache.tfineValid ∧
      (status s).getLsbD 8 = s.cache.tValid ∧ (status s).getLsbD 9 = s.cache.pValid ∧
      (status s).getLsbD 10 = s.cache.pUndef ∧ (status s).getLsbD 11 = s.cache.hValid := by
  simp only [status, BitVec.getLsbD_append, Nat.reduceLT, Nat.reduceSub, if_true, if_false, flagBit_getLsbD_zero,
    and_self]

/-- The enumerated state, two bits each, and the reserved bits (R32). -/
theorem status_fields (s : State) :
    (status s).extractLsb' 1 2 = s.port.state.code ∧ (status s).extractLsb' 3 2 = s.port.variant.code ∧
      (status s).extractLsb' 12 20 = 0 := by
  simp only [status, BitVec.extractLsb'_append_eq_ite]
  simp

/-- Settles O59: the flags and the fields of STATUS, and its value after reset by evaluation. -/
theorem statusBitLayout : Obligations.StatusBitLayout := by
  intro s
  obtain ⟨hbusy, hcalib, hsample, htfine, ht, hp, hundef, hh⟩ := status_flags s
  obtain ⟨hstate, hvariant, hreserved⟩ := status_fields s
  exact ⟨hbusy, hstate, hvariant, hcalib, hsample, htfine, ht, hp, hundef, hh, hreserved, by decide⟩

end Sys2Proof.Machine

namespace Sys2Proof.Machine

/-! SUPPORT. The illegal command words of R93: which words the decoder gives no instruction, and the one thing a step
does with such a word. -/

/-- An opcode of the map has its row (R92). -/
theorem exists_decodeOp_eq_instr {op : Nat} (h : op ≤ 0x06) : ∃ i, decodeOp op = .instr i := by
  interval_cases op <;> exact ⟨_, rfl⟩

/-- An opcode above the map has none (R93). -/
theorem decodeOp_eq_reservedOpcode {op : Nat} (h : 0x06 < op) : decodeOp op = .reservedOpcode := by
  obtain ⟨k, rfl⟩ := Nat.exists_eq_add_of_le' h
  rfl

/-- The two reasons of R93 for an illegal word are the only ones. -/
theorem forall_decode_ne_instr_iff (w : CmdWord) :
    (∀ i, decode w ≠ .instr i) ↔ rsvField w ≠ 0#24 ∨ 0x06 < (opField w).toNat := by
  by_cases hrsv : rsvField w = 0#24
  · have hdecode : decode w = decodeOp (opField w).toNat := by rw [decode, if_pos hrsv]
    rcases Nat.lt_or_ge 0x06 (opField w).toNat with hop | hop
    · simp [hdecode, decodeOp_eq_reservedOpcode hop, hop]
    · obtain ⟨i, hi⟩ := exists_decodeOp_eq_instr hop
      simp [hdecode, hi, hrsv, hop]
  · simp [decode, hrsv]

/-- A busy engine without an open request completes an illegal word with ILLEGAL_COMMAND (R93, R133). -/
theorem step_of_illegal_word {s : State} (hb : s.port.busy = true) (hp : s.port.pending = none)
    (hillegal : ∀ i, decode s.port.cmd ≠ .instr i) : step s = illegalCommand s := by
  apply step_rule (Q := (· = illegalCommand s))
  case idles => simp [hb]
  case resumes => simp [hp]
  case executes => exact fun i _ _ hi => absurd hi (hillegal i)
  case illegal => exact fun _ _ _ => rfl

/-- Settles O3: the decoder's two checks are those of R93, and the step of an illegal word only raises its code. -/
theorem illegalWordWritesOnlyItsCode : Obligations.IllegalWordWritesOnlyItsCode := by
  intro s hb hp
  have hiff := forall_decode_ne_instr_iff s.port.cmd
  exact ⟨hiff.symm, fun h => step_of_illegal_word hb hp (hiff.mpr h)⟩

/-! SUPPORT. H4 and H5 share the byte at 0xE5: each takes one of its nibbles, below the byte of its own (R102). -/

/-- A byte shifted up over a nibble is their concatenation: the sign bits of the extension are shifted out. -/
theorem signExtend_shiftLeft_or_nibble (hi : Byte) (lo : BitVec 4) :
    (hi.signExtend 12 <<< 4) ||| lo.setWidth 12 = hi ++ lo := by
  apply BitVec.eq_of_getLsbD_eq
  intro i hi12
  rw [BitVec.getLsbD_append]
  rcases Nat.lt_or_ge i 4 with hlow | hhigh
  · simp [hlow, hi12]
  · have hbyte : i - 4 < 8 := by omega
    simp [BitVec.getElem_signExtend, hbyte, hi12, hhigh, Nat.not_lt.mpr hhigh]

theorem lowNibble_setWidth (e : Byte) : (e &&& 0x0F).setWidth 12 = (e.extractLsb' 0 4).setWidth 12 := by
  have hmask : e.toNat &&& 15 = e.toNat % 16 := Nat.and_two_pow_sub_one_eq_mod e.toNat 4
  apply BitVec.eq_of_toNat_eq
  simp only [BitVec.toNat_setWidth, BitVec.toNat_and, BitVec.extractLsb'_toNat, BitVec.reduceToNat, hmask,
    Nat.shiftRight_zero, Nat.reducePow]

theorem highNibble_setWidth (e : Byte) : (e >>> 4).setWidth 12 = (e.extractLsb' 4 4).setWidth 12 := by
  have hbyte : e.toNat >>> 4 < 16 := by rw [Nat.shiftRight_eq_div_pow]; omega
  apply BitVec.eq_of_toNat_eq
  simp only [BitVec.toNat_setWidth, BitVec.toNat_ushiftRight, BitVec.extractLsb'_toNat, Nat.reducePow,
    Nat.mod_eq_of_lt hbyte]

/-- Settles O9: both decodes put the byte of their own above one nibble of the shared byte. -/
theorem h4H5AreConcatenations : Obligations.H4H5AreConcatenations := by
  intro e3 e4 e5
  constructor
  · rw [decodeH4, lowNibble_setWidth, signExtend_shiftLeft_or_nibble]
  · rw [decodeH5, highNibble_setWidth, signExtend_shiftLeft_or_nibble]

/-- R95 numbers the errors from 0x10 on, and the two other codes below it. -/
theorem isError_iff_le_code (c : Completion) : c.isError = true ↔ 0x10 ≤ c.code.toNat := by
  cases c <;> decide

/-- Settles O60: the table of R95 row by row, then its bound between results and errors. -/
theorem completionCodeValues : Obligations.CompletionCodeValues :=
  ⟨rfl, rfl, rfl, rfl, rfl, rfl, rfl, rfl, isError_iff_le_code⟩

end Sys2Proof.Machine

namespace Sys2Proof.Machine

/-! SUPPORT. What a busy engine's step does, said once: which registers each way to end a command may have written, and
which events it has added to the history by then (R131, R132, R136, R137). -/

/-- No event of the list was answered `CommErr`. -/
abbrev AllSucceeded (es : List BusEvent) : Prop := ∀ e ∈ es, e.failed = false

/-- The state within a command that has issued the events `es` and written no register yet. -/
def underway (rest : List BusAnswer) (es : List BusEvent) (s : State) : State :=
  { s with
    port := { s.port with pending := none }
    agents := { s.agents with bus := rest, history := s.agents.history ++ es } }

/-- The codes of the checks that come before a command's first event (R134). -/
def earlyCodes : List Completion := [.illegalCommand, .notReady, .alreadyInitialized, .unsupportedOperation]

/-- The ways in which a step of a busy engine in s can come out. Only `returns` leaves registers open: a command writes
none before it is sure to succeed, but for the two of UNRECOGNIZED_DEVICE. A command does not fault. -/
inductive CommandOutcome (s : State) : Out → Prop
  /-- BUS has no answer to the next request (R301). -/
  | waits (p : Pending) (es : List BusEvent) (hes : AllSucceeded es) :
    CommandOutcome s (.next (stall p (underway [] es s)))
  /-- The command completes with a code that is no error. -/
  | returns (t : State) (es : List BusEvent) (hes : AllSucceeded es) (hbusy : t.port.busy = false)
    (hcode : t.port.completion.isError = false) (hhistory : t.agents.history = s.agents.history ++ es) :
    CommandOutcome s (.next t)
  /-- A check stops the command (R134). -/
  | rejects (c : Completion) (rest : List BusAnswer) (es : List BusEvent) (hes : AllSucceeded es)
    (hc : c ∈ earlyCodes) : CommandOutcome s (.next (endedWith c rest es s))
  /-- BUS answers `CommErr` (R137). -/
  | commErr (rest : List BusAnswer) (es : List BusEvent) (e : BusEvent) (hes : AllSucceeded es)
    (he : e.failed = true) : CommandOutcome s (.next (endedWith .communicationError rest (es ++ [e]) s))
  /-- INIT reads an identity it does not know (R155). -/
  | unrecognized (id : Byte) (rest : List BusAnswer) (es : List BusEvent) (hes : AllSucceeded es) :
    CommandOutcome s (.next (failIdentity id (endedWith .unrecognizedDevice rest es s)))
  /-- The next answer has not the form of an answer to the request. -/
  | refuses (q : Refusal) : CommandOutcome s (.refused q)

theorem underway_underway (rest rest' : List BusAnswer) (es es' : List BusEvent) (s : State) :
    underway rest' es' (underway rest es s) = underway rest' (es ++ es') s := by
  simp [underway]

theorem endedWith_underway (c : Completion) (rest rest' : List BusAnswer) (es es' : List BusEvent) (s : State) :
    endedWith c rest' es' (underway rest es s) = endedWith c rest' (es ++ es') s := by
  simp [endedWith, underway, Port.completed]

theorem raise_eq_endedWith (c : Completion) (s : State) : raise c s = endedWith c s.agents.bus [] s := by
  simp [raise, endedWith, Port.completed]

theorem stall_eq_stall_underway (p : Pending) {s : State} (h : s.agents.bus = []) :
    stall p s = stall p (underway [] [] s) := by
  simp [stall, underway, ← h]

/-- A command may go on from the successful events it has issued. -/
theorem CommandOutcome.of_underway {rest : List BusAnswer} {es : List BusEvent} {s : State} {o : Out}
    (h : CommandOutcome (underway rest es s) o) (hes : AllSucceeded es) : CommandOutcome s o := by
  have happend : ∀ es', AllSucceeded es' → AllSucceeded (es ++ es') :=
    fun _ hes' => List.forall_mem_append.mpr ⟨hes, hes'⟩
  cases h with
  | waits p es' hes' =>
    rw [underway_underway]
    exact .waits p _ (happend es' hes')
  | returns t es' hes' hbusy hcode hhistory =>
    exact .returns t (es ++ es') (happend es' hes') hbusy hcode (by simp [hhistory, underway])
  | rejects c rest' es' hes' hc =>
    rw [endedWith_underway]
    exact .rejects c rest' _ (happend es' hes') hc
  | commErr rest' es' e hes' he =>
    rw [endedWith_underway, ← List.append_assoc]
    exact .commErr rest' _ e (happend es' hes') he
  | unrecognized id rest' es' hes' =>
    rw [endedWith_underway]
    exact .unrecognized id rest' _ (happend es' hes')
  | refuses q => exact .refuses q

theorem commandOutcome_stall (p : Pending) {s : State} (h : s.agents.bus = []) :
    CommandOutcome s (.next (stall p s)) := by
  rw [stall_eq_stall_underway p h]
  exact .waits p [] (List.forall_mem_nil _)

theorem commandOutcome_reject {c : Completion} (s : State) (hc : c ∈ earlyCodes) :
    CommandOutcome s (.next (raise c s)) := by
  rw [raise_eq_endedWith]
  exact .rejects c _ [] (List.forall_mem_nil _) hc

theorem commandOutcome_commErr {e : BusEvent} (rest : List BusAnswer) (s : State) (he : e.failed = true) :
    CommandOutcome s (.next (raise .communicationError (record e (takeAnswer rest s)))) :=
  .commErr rest [] e (List.forall_mem_nil _) he

theorem commandOutcome_unrecognized (id : Byte) (s : State) :
    CommandOutcome s (.next (raise .unrecognizedDevice (failIdentity id s))) := by
  have hraise : raise .unrecognizedDevice (failIdentity id s) = failIdentity id (raise .unrecognizedDevice s) := rfl
  rw [hraise, raise_eq_endedWith]
  exact .unrecognized id _ [] (List.forall_mem_nil _)

/-! The part of a command after its last event: it only computes. -/

/-- The outcome is a completion with a code that is no error, and the agents are still as in `a`. -/
def Returns (a : Agents) (o : Out) : Prop :=
  ∃ t, o = .next t ∧ t.port.busy = false ∧ t.port.completion.isError = false ∧ t.agents = a

theorem Returns.commandOutcome {s : State} {o : Out} (h : Returns s.agents o) : CommandOutcome s o := by
  obtain ⟨t, rfl, hbusy, hcode, hagents⟩ := h
  exact .returns t [] (List.forall_mem_nil _) hbusy hcode (by simp [hagents])

theorem returns_complete_ok (v : Int) (s : State) : Returns s.agents (.next (complete .ok v s)) :=
  ⟨_, rfl, rfl, rfl, rfl⟩

theorem returns_completePres (s : State) : Returns s.agents (.next (completePres s)) := by
  unfold completePres
  split
  · exact ⟨_, rfl, rfl, rfl, rfl⟩
  · exact returns_complete_ok _ s

theorem ensureTFine_returns {k : BitVec 23 → State → Out} (hk : ∀ tf u, Returns u.agents (k tf u)) (s : State) :
    Returns s.agents (ensureTFine k s) :=
  ensureTFine_rule (fun _ => hk _ s) (fun _ => hk _ (loadTFine s))

theorem finish_returns (r : Reader) (b : Bool) (s : State) : Returns s.agents (finish r b s) := by
  cases r with
  | refresh => exact returns_complete_ok _ s
  | temp =>
    simp only [finish, finishTemp]
    split
    · exact returns_complete_ok _ s
    · exact ensureTFine_returns (fun tf u => returns_complete_ok _ (loadTOut tf u)) s
  | pres =>
    simp only [finish, finishPres]
    split
    · exact returns_completePres s
    · exact ensureTFine_returns (fun tf u => returns_completePres (loadPOut tf u)) s
  | hum =>
    simp only [finish, finishHum]
    split
    · exact returns_complete_ok _ s
    · exact ensureTFine_returns (fun tf u => returns_complete_ok _ (loadHOut tf u)) s

/-! The bus operations -/

/-- A MemRead ends the command on `CommErr`; after an answer the command goes on. -/
theorem memRead_commandOutcome {off : Byte} {n : Nat} {p : Pending} {k : Option (List Byte) → State → Out}
    (hfails : ∀ u, k none u = .next (raise .communicationError u))
    (hanswers : ∀ bs u, CommandOutcome u (k (some bs) u)) (s : State) : CommandOutcome s (memRead off n p k s) := by
  apply memRead_rule
  case waits => exact commandOutcome_stall p
  case fails =>
    intro rest _
    rw [hfails]
    exact commandOutcome_commErr rest s rfl
  case answers =>
    intro bs rest _ _
    exact (hanswers bs (underway rest [readEvent off n (some bs)] s)).of_underway (List.forall_mem_singleton.mpr rfl)
  case wrong => exact .refuses _

theorem readBurst_commandOutcome (r : Reader) (s : State) : CommandOutcome s (readBurst r (finish r) s) := by
  apply memRead_commandOutcome (fun _ => rfl)
  exact fun bs u => Returns.commandOutcome (finish_returns r true (loadSample u.port.arg bs u))

theorem convert_commandOutcome (r : Reader) (s : State) : CommandOutcome s (convert r (finish r) s) := by
  apply convert_rule
  case waits => exact commandOutcome_stall _
  case fails => exact fun rest _ => commandOutcome_commErr rest s rfl
  case answers =>
    intro rest _
    have hcontrol : CommandOutcome (underway rest [controlEvent true] s)
        (readBurst r (finish r) (underway rest [settleEvent] (underway rest [controlEvent true] s))) :=
      (readBurst_commandOutcome r _).of_underway (List.forall_mem_singleton.mpr rfl)
    exact hcontrol.of_underway (List.forall_mem_singleton.mpr rfl)
  case wrong => exact .refuses _

theorem ensureFresh_commandOutcome (r : Reader) (s : State) : CommandOutcome s (ensureFresh r (finish r) s) :=
  ensureFresh_rule (fun _ => (finish_returns r false s).commandOutcome) (fun _ => convert_commandOutcome r s)

/-! INIT, from its last read back to its first -/

theorem readHumidityRest_commandOutcome (id : Byte) (c : List Byte) (a : Byte) (s : State) :
    CommandOutcome s (readHumidityRest id c a s) := by
  apply memRead_commandOutcome (fun _ => rfl)
  exact fun e u => Returns.commandOutcome (returns_complete_ok _ (commitHum a e (commitTp id c u)))

theorem readHumidityFirst_commandOutcome (id : Byte) (c : List Byte) (s : State) :
    CommandOutcome s (readHumidityFirst id c s) :=
  memRead_commandOutcome (fun _ => rfl) (fun a u => readHumidityRest_commandOutcome id c (byteAt a 0) u) s

theorem readCalibration_commandOutcome (id : Byte) (s : State) : CommandOutcome s (readCalibration id s) := by
  apply memRead_commandOutcome (fun _ => rfl)
  intro c u
  simp only [gotCalibration]
  split
  · exact readHumidityFirst_commandOutcome id c u
  · exact Returns.commandOutcome (returns_complete_ok _ (commitTp id c u))

theorem readIdentity_commandOutcome (s : State) : CommandOutcome s (readIdentity s) := by
  apply memRead_commandOutcome (fun _ => rfl)
  intro bs u
  simp only [gotIdentity]
  split
  · exact commandOutcome_unrecognized _ u
  · exact readCalibration_commandOutcome _ u

/-! The commands -/

theorem exec_commandOutcome (i : Instr) (s : State) : CommandOutcome s (exec i s) := by
  have hnotReady : CommandOutcome s (.next (raise .notReady s)) := commandOutcome_reject s (by decide)
  cases i with
  | nop => exact Returns.commandOutcome ⟨_, rfl, rfl, rfl, rfl⟩
  | init =>
    simp only [exec, execInit]
    split
    · exact commandOutcome_reject s (by decide)
    · exact hnotReady
    · exact readIdentity_commandOutcome s
  | setInterval => exact Returns.commandOutcome (returns_complete_ok _ (setInterval s.port.arg s))
  | refresh =>
    simp only [exec, execRefresh]
    split
    · exact ensureFresh_commandOutcome .refresh s
    · exact hnotReady
  | readTemp =>
    simp only [exec, execReadTemp]
    split
    · exact ensureFresh_commandOutcome .temp s
    · exact hnotReady
  | readPres =>
    simp only [exec, execReadPres]
    split
    · exact ensureFresh_commandOutcome .pres s
    · exact hnotReady
  | readHum =>
    simp only [exec, execReadHum]
    split
    · split
      · exact ensureFresh_commandOutcome .hum s
      · exact commandOutcome_reject s (by decide)
    · exact hnotReady

theorem resume_commandOutcome (p : Pending) (s : State) : CommandOutcome s (resume p s) := by
  cases p with
  | identity => exact readIdentity_commandOutcome s
  | calibration id => exact readCalibration_commandOutcome id s
  | humidityFirst id c => exact readHumidityFirst_commandOutcome id c s
  | humidityRest id c a => exact readHumidityRest_commandOutcome id c a s
  | control r => exact convert_commandOutcome r s
  | burst r => exact readBurst_commandOutcome r s

/-- Every step of a busy engine comes out in one of the ways of `CommandOutcome` (R131, R132). -/
theorem step_commandOutcome {s : State} (hb : s.port.busy = true) : CommandOutcome s (step s) := by
  apply step_rule
  case idles => simp [hb]
  case resumes => exact fun p _ _ => resume_commandOutcome p s
  case executes => exact fun i _ _ _ => exec_commandOutcome i s
  case illegal => exact fun _ _ _ => commandOutcome_reject s (by decide)

/-- Settles O41: of the ways a busy step comes out, those with an error code are `endedWith` that code, and the one
of an unrecognized device with CHIP_ID and STATE written on top. -/
theorem errorsLeaveNoPartialUpdate : Obligations.ErrorsLeaveNoPartialUpdate := by
  intro s t hb hstep hidle herror
  have houtcome : CommandOutcome s (.next t) := hstep ▸ step_commandOutcome hb
  cases houtcome with
  | waits p es _ => simp at hidle
  | returns _ es _ _ hcode _ => simp [hcode] at herror
  | rejects c rest es _ hc =>
    have hdevice : c ≠ .unrecognizedDevice := ne_of_mem_of_not_mem hc (by decide)
    exact ⟨rfl, rfl, rfl, fun _ => rfl, fun h => absurd h hdevice, es, rfl⟩
  | commErr rest es e _ _ => exact ⟨rfl, rfl, rfl, fun _ => rfl, nofun, es ++ [e], rfl⟩
  | unrecognized id rest es _ => exact ⟨rfl, rfl, rfl, fun h => absurd rfl h, fun _ => rfl, es, rfl⟩

/-- Settles O44: of the ways a busy step comes out, only the one with COMMUNICATION_ERROR adds a failing event, as its
last. -/
theorem commErrEndsTheCommandAtOnce : Obligations.CommErrEndsTheCommandAtOnce := by
  intro s t hb hstep
  have houtcome : CommandOutcome s (.next t) := hstep ▸ step_commandOutcome hb
  cases houtcome with
  | waits p es hes => exact ⟨es, hes, fun _ => rfl, fun h => absurd h.1 (by simp)⟩
  | returns _ es hes _ hcode hhistory =>
    refine ⟨es, hes, fun _ => hhistory, fun h => ?_⟩
    rw [h.2] at hcode
    cases hcode
  | rejects c rest es hes hc =>
    have hcomm : c ≠ .communicationError := ne_of_mem_of_not_mem hc (by decide)
    exact ⟨es, hes, fun _ => rfl, fun h => absurd h.2 hcomm⟩
  | commErr rest es e hes he =>
    exact ⟨es, hes, fun h => absurd h (by simp [endedWith, Port.completed]), fun _ =>
      ⟨e, he, (List.append_assoc _ es [e]).symm⟩⟩
  | unrecognized id rest es hes => exact ⟨es, hes, fun _ => rfl, fun h => absurd h.2 nofun⟩

/-- Settles O21: the decoder's first row, and NOP's whole meaning, `complete OK` without a value. -/
theorem nopOnlyCompletes : Obligations.NopOnlyCompletes := ⟨rfl, fun _ => rfl⟩

/-! SUPPORT. Runs from two states that differ in COMPLETION and RESULT only (R138). Such a difference passes every
operation that writes neither, and no operation reads either. -/

@[simp] theorem withCodes_state (c : Completion) (v : BitVec 128) (s : State) : (withCodes c v s).port.state =
    s.port.state := rfl
@[simp] theorem withCodes_agents (c : Completion) (v : BitVec 128) (s : State) : (withCodes c v s).agents =
    s.agents := rfl

/-- What the operation does is the same whatever COMPLETION and RESULT hold (R138). -/
def IgnoresCodes (f : State → Out) : Prop :=
  ∀ (c : Completion) (v : BitVec 128) (s : State), SameButEarlierCodes s c v (f s) (f (withCodes c v s))

/-- A command may go on from a state u that has the codes of its start s. -/
theorem IgnoresCodes.of_same_codes {f : State → Out} (hf : IgnoresCodes f) (c : Completion) (v : BitVec 128)
    (s u : State) (hcompletion : u.port.completion = s.port.completion := by rfl)
    (hresult : u.port.result = s.port.result := by rfl) : SameButEarlierCodes s c v (f u) (f (withCodes c v u)) := by
  simpa only [SameButEarlierCodes, hcompletion, hresult] using hf c v u

/-- Both branches of a choice that does not look at the codes. -/
theorem ite_ignoresCodes {cond : State → Prop} [∀ s, Decidable (cond s)] {f g : State → Out}
    (hf : IgnoresCodes f) (hg : IgnoresCodes g)
    (hcond : ∀ c v s, cond (withCodes c v s) ↔ cond s := by exact fun _ _ _ => Iff.rfl) :
    IgnoresCodes (fun s => if cond s then f s else g s) := by
  intro c v s
  by_cases h : cond s
  · simpa only [hcond, h, if_true] using hf c v s
  · simpa only [hcond, h, if_false] using hg c v s

theorem raise_ignoresCodes (code : Completion) : IgnoresCodes (fun s => .next (raise code s)) :=
  fun _ _ _ => ⟨rfl, fun _ => ⟨rfl, .inr ⟨rfl, rfl⟩⟩, nofun⟩

theorem stall_ignoresCodes (p : Pending) : IgnoresCodes (fun s => .next (stall p s)) :=
  fun _ _ _ => ⟨rfl, nofun, fun _ => ⟨rfl, rfl, rfl, rfl⟩⟩

/-- A command that completes with a value writes both codes, and computes all else without them. -/
theorem complete_ignoresCodes {code : Completion} {value : State → Int} {f : State → State}
    (hvalue : ∀ c v s, value (withCodes c v s) = value s := by exact fun _ _ _ => rfl)
    (hf : ∀ c v s, f (withCodes c v s) = withCodes c v (f s) := by exact fun _ _ _ => rfl) :
    IgnoresCodes (fun s => .next (complete code (value s) (f s))) := by
  intro c v s
  simp only [hvalue, hf]
  exact ⟨rfl, fun _ => ⟨rfl, .inl rfl⟩, nofun⟩

/-! The bus operations -/

theorem memRead_ignoresCodes {off : Byte} {p : Pending} {k : Option (List Byte) → State → Out}
    (hk : ∀ answer, IgnoresCodes (k answer)) (n : Nat) : IgnoresCodes (memRead off n p k) := by
  intro c v s
  rcases hbus : s.agents.bus with - | ⟨- | - | bs, rest⟩
  case nil =>
    rw [memRead_waits hbus, memRead_waits (s := withCodes c v s) hbus]
    exact stall_ignoresCodes p c v s
  case cons.commErr =>
    rw [memRead_fails hbus, memRead_fails (s := withCodes c v s) hbus]
    exact (hk none).of_same_codes c v s (record _ (takeAnswer rest s))
  case cons.ok =>
    simp only [memRead, hbus, withCodes_agents]
    rfl
  case cons.bytes =>
    by_cases hn : bs.length = n
    · rw [memRead_answers hbus hn, memRead_answers (s := withCodes c v s) hbus hn]
      exact (hk (some bs)).of_same_codes c v s (record _ (takeAnswer rest s))
    · simp only [memRead, hbus, withCodes_agents, hn, if_false]
      rfl

theorem memWriteControl_ignoresCodes {p : Pending} {k : Bool → State → Out}
    (hk : ∀ ok, IgnoresCodes (k ok)) : IgnoresCodes (memWriteControl p k) := by
  intro c v s
  rcases hbus : s.agents.bus with - | ⟨- | - | bs, rest⟩
  case nil =>
    rw [memWriteControl_waits hbus, memWriteControl_waits (s := withCodes c v s) hbus]
    exact stall_ignoresCodes p c v s
  case cons.commErr =>
    rw [memWriteControl_fails hbus, memWriteControl_fails (s := withCodes c v s) hbus]
    exact (hk false).of_same_codes c v s (record _ (takeAnswer rest s))
  case cons.ok =>
    rw [memWriteControl_answers hbus, memWriteControl_answers (s := withCodes c v s) hbus]
    exact (hk true).of_same_codes c v s (record _ (takeAnswer rest s))
  case cons.bytes =>
    simp only [memWriteControl, hbus, withCodes_agents]
    rfl

theorem gotBurst_ignoresCodes {k : Bool → State → Out} (hk : ∀ b, IgnoresCodes (k b)) (answer : Option (List Byte)) :
    IgnoresCodes (gotBurst k answer) := by
  cases answer with
  | none => exact raise_ignoresCodes _
  | some bs => exact fun c v s => (hk true).of_same_codes c v s (loadSample s.port.arg bs s)

theorem readBurst_ignoresCodes {r : Reader} {k : Bool → State → Out} (hk : ∀ b, IgnoresCodes (k b)) :
    IgnoresCodes (readBurst r k) :=
  fun c v s => memRead_ignoresCodes (gotBurst_ignoresCodes hk) (burstLength s.port.variant) c v s

theorem gotControl_ignoresCodes {r : Reader} {k : Bool → State → Out} (hk : ∀ b, IgnoresCodes (k b)) (ok : Bool) :
    IgnoresCodes (gotControl r k ok) := by
  cases ok with
  | false => exact raise_ignoresCodes _
  | true => exact fun c v s => (readBurst_ignoresCodes hk).of_same_codes c v s (record settleEvent s)

theorem convert_ignoresCodes {r : Reader} {k : Bool → State → Out} (hk : ∀ b, IgnoresCodes (k b)) :
    IgnoresCodes (convert r k) :=
  memWriteControl_ignoresCodes (gotControl_ignoresCodes hk)

theorem ensureFresh_ignoresCodes {r : Reader} {k : Bool → State → Out} (hk : ∀ b, IgnoresCodes (k b)) :
    IgnoresCodes (ensureFresh r k) :=
  ite_ignoresCodes (hk false) (convert_ignoresCodes hk)

/-! The accessors and INIT -/

theorem ensureTFine_ignoresCodes {k : BitVec 23 → State → Out} (hk : ∀ tf, IgnoresCodes (k tf)) :
    IgnoresCodes (ensureTFine k) :=
  ite_ignoresCodes (fun c v s => hk s.cache.tFine c v s)
    (fun c v s => (hk (tFineReg s.cache.adcT s.store.tp)).of_same_codes c v s (loadTFine s))

theorem completePres_ignoresCodes : IgnoresCodes (fun s => .next (completePres s)) := by
  have hchoice : (fun s => Host.Outcome.next (completePres s) : State → Out) = fun s =>
      if s.cache.pUndef then .next (complete .undefinedResult 0 s) else .next (complete .ok s.cache.pOut.toInt s) :=
    funext fun s => apply_ite Host.Outcome.next (s.cache.pUndef = true) _ _
  rw [hchoice]
  exact ite_ignoresCodes (complete_ignoresCodes (f := id)) (complete_ignoresCodes (f := id))

theorem finish_ignoresCodes (r : Reader) (b : Bool) : IgnoresCodes (finish r b) := by
  cases r with
  | refresh => exact complete_ignoresCodes (f := id)
  | temp =>
    exact ite_ignoresCodes (complete_ignoresCodes (f := id))
      (ensureTFine_ignoresCodes fun tf => complete_ignoresCodes (f := loadTOut tf))
  | pres =>
    exact ite_ignoresCodes completePres_ignoresCodes
      (ensureTFine_ignoresCodes fun tf c v s => completePres_ignoresCodes.of_same_codes c v s (loadPOut tf s))
  | hum =>
    exact ite_ignoresCodes (complete_ignoresCodes (f := id))
      (ensureTFine_ignoresCodes fun tf => complete_ignoresCodes (f := loadHOut tf))

theorem readHumidityRest_ignoresCodes (id : Byte) (c : List Byte) (a : Byte) :
    IgnoresCodes (readHumidityRest id c a) := by
  apply memRead_ignoresCodes
  rintro (- | e)
  · exact raise_ignoresCodes _
  · exact complete_ignoresCodes (f := fun s => commitHum a e (commitTp id c s))

theorem readHumidityFirst_ignoresCodes (id : Byte) (c : List Byte) : IgnoresCodes (readHumidityFirst id c) := by
  apply memRead_ignoresCodes
  rintro (- | a)
  · exact raise_ignoresCodes _
  · exact readHumidityRest_ignoresCodes id c (byteAt a 0)

theorem readCalibration_ignoresCodes (id : Byte) : IgnoresCodes (readCalibration id) := by
  apply memRead_ignoresCodes
  rintro (- | c)
  · exact raise_ignoresCodes _
  · exact ite_ignoresCodes (readHumidityFirst_ignoresCodes id c) (complete_ignoresCodes (f := commitTp id c))

theorem readIdentity_ignoresCodes : IgnoresCodes readIdentity := by
  apply memRead_ignoresCodes
  rintro (- | bs)
  · exact raise_ignoresCodes _
  · exact ite_ignoresCodes (fun c v s => (raise_ignoresCodes _).of_same_codes c v s (failIdentity (byteAt bs 0) s))
      (readCalibration_ignoresCodes (byteAt bs 0))

theorem execInit_ignoresCodes : IgnoresCodes execInit := by
  intro c v s
  cases hstate : s.port.state with
  | uninit =>
    simp only [execInit, withCodes_state, hstate]
    exact readIdentity_ignoresCodes c v s
  | ready =>
    simp only [execInit, withCodes_state, hstate]
    exact raise_ignoresCodes _ c v s
  | failed =>
    simp only [execInit, withCodes_state, hstate]
    exact raise_ignoresCodes _ c v s

/-! The commands -/

/-- The check that REFRESH and the READ_* commands begin with (R281). -/
theorem whenReady_ignoresCodes {f : State → Out} (hf : IgnoresCodes f) :
    IgnoresCodes (fun s => if s.port.state = .ready then f s else .next (raise .notReady s)) :=
  ite_ignoresCodes hf (raise_ignoresCodes _)

theorem exec_ignoresCodes (i : Instr) : IgnoresCodes (exec i) := by
  cases i with
  | nop => exact raise_ignoresCodes _
  | init => exact execInit_ignoresCodes
  | setInterval => exact complete_ignoresCodes (f := fun s => setInterval s.port.arg s)
  | refresh => exact whenReady_ignoresCodes (ensureFresh_ignoresCodes (finish_ignoresCodes .refresh))
  | readTemp => exact whenReady_ignoresCodes (ensureFresh_ignoresCodes (finish_ignoresCodes .temp))
  | readPres => exact whenReady_ignoresCodes (ensureFresh_ignoresCodes (finish_ignoresCodes .pres))
  | readHum =>
    exact whenReady_ignoresCodes (ite_ignoresCodes (ensureFresh_ignoresCodes (finish_ignoresCodes .hum))
      (raise_ignoresCodes _))

theorem resume_ignoresCodes (p : Pending) : IgnoresCodes (resume p) := by
  cases p with
  | identity => exact readIdentity_ignoresCodes
  | calibration id => exact readCalibration_ignoresCodes id
  | humidityFirst id c => exact readHumidityFirst_ignoresCodes id c
  | humidityRest id c a => exact readHumidityRest_ignoresCodes id c a
  | control r => exact convert_ignoresCodes (finish_ignoresCodes r)
  | burst r => exact readBurst_ignoresCodes (finish_ignoresCodes r)

theorem step_of_pending {s : State} {p : Pending} (hb : s.port.busy = true) (hp : s.port.pending = some p) :
    step s = resume p s := by
  simp only [step, hb, hp]

theorem step_of_instr {s : State} {i : Instr} (hb : s.port.busy = true) (hp : s.port.pending = none)
    (hi : decode s.port.cmd = .instr i) : step s = exec i s := by
  simp only [step, hb, hp, hi]

/-- Settles O45: `withCodes` keeps BUSY, the open request and CMD, so both steps run the same command. -/
theorem commandsIgnoreEarlierCodes : Obligations.CommandsIgnoreEarlierCodes := by
  intro c v s hb
  apply step_rule (Q := fun o => SameButEarlierCodes s c v o (step (withCodes c v s)))
  case idles => simp [hb]
  case resumes =>
    intro p _ hp
    rw [step_of_pending (s := withCodes c v s) hb hp]
    exact resume_ignoresCodes p c v s
  case executes =>
    intro i _ hp hi
    rw [step_of_instr (s := withCodes c v s) hb hp hi]
    exact exec_ignoresCodes i c v s
  case illegal =>
    intro _ hp hnone
    have hillegal : ∀ i, decode s.port.cmd ≠ .instr i := by
      intro i hi
      simp [hi, Decoded.instr?] at hnone
    rw [step_of_illegal_word (s := withCodes c v s) hb hp hillegal]
    exact raise_ignoresCodes .illegalCommand c v s

end Sys2Proof.Machine

namespace Sys2Proof.Machine

/-! SUPPORT. The pure decoders of INIT: the identity decode, and a 16-bit coefficient as a number (R154, R158). -/

theorem variantOf_eq_tp_iff (id : Byte) : variantOf id = .tp ↔ id = 0x58 := by
  unfold variantOf
  split
  case isTrue htp => exact iff_of_true rfl htp
  case isFalse htp => split <;> exact iff_of_false nofun htp

theorem variantOf_eq_tph_iff (id : Byte) : variantOf id = .tph ↔ id = 0x60 := by
  unfold variantOf
  split
  case isTrue htp => exact iff_of_false nofun (by rw [htp]; decide)
  case isFalse =>
    split
    case isTrue htph => exact iff_of_true rfl htph
    case isFalse htph => exact iff_of_false nofun htph

theorem variantOf_eq_none_iff (id : Byte) : variantOf id = .none ↔ id ≠ 0x58 ∧ id ≠ 0x60 := by
  unfold variantOf
  split
  case isTrue htp => exact iff_of_false nofun fun h => h.1 htp
  case isFalse htp =>
    split
    case isTrue htph => exact iff_of_false nofun fun h => h.2 htph
    case isFalse htph => exact iff_of_true rfl ⟨htp, htph⟩

/-- Settles O6: the identity byte as a number, in the three cases of the decode. -/
theorem identitySelectsVariant : Obligations.IdentitySelectsVariant := by
  intro id
  have htp : id = 0x58 ↔ id.toNat = 0x58 := BitVec.toNat_eq
  have htph : id = 0x60 ↔ id.toNat = 0x60 := BitVec.toNat_eq
  simp only [variantOf_eq_tp_iff, variantOf_eq_tph_iff, variantOf_eq_none_iff, ne_eq, htp, htph, and_self]

/-- le16 puts the byte at the higher offset above the other (R13). -/
theorem le16_eq_append (b0 b1 : Byte) : le16 b0 b1 = b1 ++ b0 := by
  rw [le16, BitVec.or_comm, BitVec.append_def, BitVec.shiftLeftZeroExtend_eq, BitVec.setWidth'_eq]

/-- The two bytes do not overlap, so joining them is an addition. -/
theorem le16_toNat (b0 b1 : Byte) : (le16 b0 b1).toNat = b0.toNat + 256 * b1.toNat := by
  rw [le16_eq_append, BitVec.toNat_append, ← Nat.shiftLeft_add_eq_or_of_lt b0.isLt, Nat.shiftLeft_eq]
  omega

/-- The two's-complement reading of le16 (R158). -/
theorem le16_toInt (b0 b1 : Byte) : (le16 b0 b1).toInt =
    if b0.toNat + 256 * b1.toNat < 32768 then ((b0.toNat + 256 * b1.toNat : Nat) : Int)
    else ((b0.toNat + 256 * b1.toNat : Nat) : Int) - 65536 := by
  rw [BitVec.toInt_eq_toNat_cond, le16_toNat]
  split <;> split <;> omega

/-- Settles O7: each coefficient is le16 of its two bytes, T1 and P1 read by toNat and the others by toInt. -/
theorem tpCoefficientsLittleEndian : Obligations.TpCoefficientsLittleEndian := fun _ _ =>
  ⟨le16_toNat _ _, le16_toInt _ _, le16_toInt _ _, le16_toNat _ _, le16_toInt _ _, le16_toInt _ _, le16_toInt _ _,
    le16_toInt _ _, le16_toInt _ _, le16_toInt _ _, le16_toInt _ _, le16_toInt _ _⟩

/-! SUPPORT. INIT read by read (R151): how each read goes on after its answer, and how it ends on `CommErr`. -/

theorem exec_init_of_uninit {s : State} (h : s.port.state = .uninit) : exec .init s = readIdentity s := by
  simp only [exec, execInit, h]

/-- The unrecognized device (R155). -/
theorem readIdentity_of_none {s : State} {id : Byte} {rest : List BusAnswer} (hv : variantOf id = .none)
    (hbus : s.agents.bus = .bytes [id] :: rest) :
    readIdentity s =
      .next (failIdentity id (endedWith .unrecognizedDevice rest [readEvent 0xD0 1 (some [id])] s)) := by
  rw [readIdentity, memRead_answers (n := 1) hbus rfl]
  exact if_pos hv

theorem readIdentity_of_known {s : State} {id : Byte} {rest : List BusAnswer} (hv : variantOf id ≠ .none)
    (hbus : s.agents.bus = .bytes [id] :: rest) :
    readIdentity s = readCalibration id (underway rest [readEvent 0xD0 1 (some [id])] s) := by
  rw [readIdentity, memRead_answers (n := 1) hbus rfl]
  exact if_neg hv

theorem readCalibration_of_tph {s : State} {id : Byte} {c : List Byte} {rest : List BusAnswer}
    (hv : variantOf id = .tph) (hc : c.length = 24) (hbus : s.agents.bus = .bytes c :: rest) :
    readCalibration id s = readHumidityFirst id c (underway rest [readEvent 0x88 24 (some c)] s) := by
  rw [readCalibration, memRead_answers hbus hc]
  exact if_pos hv

theorem readHumidityFirst_answers {s : State} {a : Byte} {rest : List BusAnswer} (id : Byte) (c : List Byte)
    (hbus : s.agents.bus = .bytes [a] :: rest) :
    readHumidityFirst id c s = readHumidityRest id c a (underway rest [readEvent 0xA1 1 (some [a])] s) := by
  rw [readHumidityFirst, memRead_answers (n := 1) hbus rfl]
  rfl

/-- A MemRead whose command ends on `CommErr` writes nothing but the code (R137). -/
theorem memRead_commErr {off : Byte} {n : Nat} {p : Pending} {k : Option (List Byte) → State → Out} {s : State}
    {rest : List BusAnswer} (hk : ∀ u, k none u = .next (raise .communicationError u))
    (hbus : s.agents.bus = .commErr :: rest) :
    memRead off n p k s = .next (endedWith .communicationError rest [readEvent off n none] s) := by
  rw [memRead_fails hbus, hk]
  rfl

theorem readCalibration_commErr {s : State} {rest : List BusAnswer} (id : Byte)
    (hbus : s.agents.bus = .commErr :: rest) :
    readCalibration id s = .next (endedWith .communicationError rest [readEvent 0x88 24 none] s) :=
  memRead_commErr (fun _ => rfl) hbus

theorem readHumidityFirst_commErr {s : State} {rest : List BusAnswer} (id : Byte) (c : List Byte)
    (hbus : s.agents.bus = .commErr :: rest) :
    readHumidityFirst id c s = .next (endedWith .communicationError rest [readEvent 0xA1 1 none] s) :=
  memRead_commErr (fun _ => rfl) hbus

theorem readHumidityRest_commErr {s : State} {rest : List BusAnswer} (id : Byte) (c : List Byte) (a : Byte)
    (hbus : s.agents.bus = .commErr :: rest) :
    readHumidityRest id c a s = .next (endedWith .communicationError rest [readEvent 0xE1 7 none] s) :=
  memRead_commErr (fun _ => rfl) hbus

/-- Settles O26: the reads before the failing one leave the state `underway`, which the failing one ends. -/
theorem initCommErrWritesOnlyCompletion : Obligations.InitCommErrWritesOnlyCompletion := by
  intro s id a c rest huninit hc
  have hknown : variantOf id = .tph → variantOf id ≠ .none := fun hv => by simp [hv]
  rw [exec_init_of_uninit huninit]
  refine ⟨?identity, ?calibration, ?humidityFirst, ?humidityRest⟩
  case identity => exact memRead_commErr fun _ => rfl
  case calibration =>
    intro hv hbus
    rw [readIdentity_of_known hv hbus, readCalibration_commErr id rfl, endedWith_underway]
    rfl
  case humidityFirst =>
    intro hv hbus
    rw [readIdentity_of_known (hknown hv) hbus, readCalibration_of_tph hv hc rfl, readHumidityFirst_commErr id c rfl,
      endedWith_underway, endedWith_underway]
    rfl
  case humidityRest =>
    intro hv hbus
    rw [readIdentity_of_known (hknown hv) hbus, readCalibration_of_tph hv hc rfl, readHumidityFirst_answers id c rfl,
      readHumidityRest_commErr id c a rfl, endedWith_underway, endedWith_underway, endedWith_underway]
    rfl

/-- Outside READY there is no variant and no calibration (R25, R43). -/
theorem EngineInvariant.uncalibrated {s : State} (hinv : EngineInvariant s) (h : s.port.state ≠ .ready) :
    s.port.variant = .none ∧ s.store.calibValid = false := by
  obtain ⟨⟨-, -, -, -, -, hcalib⟩, hvariant, -⟩ := hinv
  exact ⟨not_not.mp (mt hvariant.mpr h), Bool.eq_false_iff.mpr (mt hcalib.mp h)⟩

/-- Settles O25: INIT ends at the identity read with CHIP_ID and STATE written on top of the code; UNINIT is outside
READY. -/
theorem initFailsOnUnrecognizedDevice : Obligations.InitFailsOnUnrecognizedDevice := by
  intro s id rest huninit hv hbus
  constructor
  · rw [exec_init_of_uninit huninit, readIdentity_of_none hv hbus]
    rfl
  · exact fun hinv => hinv.uncalibrated (by simp [huninit])

/-! SUPPORT. The commands in FAILED: none gets past its check of STATE, so none reaches the bus (R153, R281). -/

theorem exec_init_of_ready {s : State} (h : s.port.state = .ready) :
    exec .init s = .next (raise .alreadyInitialized s) := by
  simp only [exec, execInit, h]

theorem exec_init_of_failed {s : State} (h : s.port.state = .failed) :
    exec .init s = .next (raise .notReady s) := by
  simp only [exec, execInit, h]

/-- REFRESH and the READ_* commands are rejected outside READY (R281). -/
theorem exec_reader_of_not_ready {i : Instr} {r : Reader} {s : State} (hi : i.reader? = some r)
    (h : s.port.state ≠ .ready) : exec i s = .next (raise .notReady s) := by
  cases i with
  | nop => cases hi
  | init => cases hi
  | setInterval => cases hi
  | refresh => exact if_neg h
  | readTemp => exact if_neg h
  | readPres => exact if_neg h
  | readHum => exact if_neg h

/-- Every next state the outcome answers has STATE = FAILED. -/
def StaysFailed (o : Out) : Prop := ∀ t, o = .next t → t.port.state = .failed

theorem staysFailed_next {t : State} (h : t.port.state = .failed) : StaysFailed (.next t) := by
  rintro _ ⟨⟩
  exact h

theorem exec_staysFailed (i : Instr) {s : State} (h : s.port.state = .failed) : StaysFailed (exec i s) := by
  have hreader : ∀ j r, Instr.reader? j = some r → StaysFailed (exec j s) := by
    intro j r hj
    rw [exec_reader_of_not_ready hj (by simp [h])]
    exact staysFailed_next h
  cases i with
  | nop => exact staysFailed_next h
  | init =>
    rw [exec_init_of_failed h]
    exact staysFailed_next h
  | setInterval => exact staysFailed_next h
  | refresh => exact hreader _ _ rfl
  | readTemp => exact hreader _ _ rfl
  | readPres => exact hreader _ _ rfl
  | readHum => exact hreader _ _ rfl

/-- No command can wait in FAILED (R301). -/
theorem pending_lawful_of_failed (p : Pending) {s : State} (h : s.port.state = .failed) : p.lawful s = false := by
  cases p <;> simp [Pending.lawful, h]

/-- HOST leaves FAILED by a reset only (R300). -/
theorem idle_staysFailed {s : State} (hb : s.port.busy = false) (hreset : s.agents.host.head? ≠ some .reset)
    (h : s.port.state = .failed) : StaysFailed (idle s) := by
  apply idle_rule hb
  case rests => exact fun _ => staysFailed_next h
  case issued => exact fun _ _ _ _ => staysFailed_next h
  case reset =>
    intro rest hnext
    simp [hnext] at hreset
  case seen => exact fun _ _ _ => staysFailed_next h
  case fault =>
    intro f t ht
    cases ht
  case refused =>
    intro q t ht
    cases ht

theorem step_staysFailed {s : State} (hinv : EngineInvariant s) (hreset : NoResetNext s)
    (h : s.port.state = .failed) : StaysFailed (step s) := by
  apply step_rule
  case idles => exact fun hb => idle_staysFailed hb (hreset hb) h
  case resumes =>
    intro p _ hp
    have hlawful := hinv.pending_lawful hp
    simp [pending_lawful_of_failed p h] at hlawful
  case executes => exact fun i _ _ _ => exec_staysFailed i h
  case illegal => exact fun _ _ _ => staysFailed_next h

/-- Settles O27: INIT's two rejections, and every move from FAILED but reset. -/
theorem initRejectedAndFailedIsFinal : Obligations.InitRejectedAndFailedIsFinal :=
  ⟨fun _ => exec_init_of_ready, fun _ => exec_init_of_failed,
    fun _ t hinv hreset h => step_staysFailed hinv hreset h t⟩

end Sys2Proof.Machine

namespace Sys2Proof.Machine

/-! SUPPORT. The burst's fields as numbers (R198): bytes shifted apart do not overlap, so joining them is an addition. -/

/-- The low byte gives its high nibble only. -/
theorem count20_toNat (hi mid lo : Byte) :
    (count20 hi mid lo).toNat = hi.toNat * 4096 + mid.toNat * 16 + lo.toNat / 16 := by
  have hlo : lo.toNat >>> 4 = lo.toNat / 16 := Nat.shiftRight_eq_div_pow lo.toNat 4
  have hlow : mid.toNat <<< 4 ||| lo.toNat >>> 4 = mid.toNat * 16 + lo.toNat / 16 := by
    rw [← Nat.shiftLeft_add_eq_or_of_lt (by omega), Nat.shiftLeft_eq, hlo]
  have hall : hi.toNat <<< 12 ||| (mid.toNat * 16 + lo.toNat / 16) =
      hi.toNat * 4096 + (mid.toNat * 16 + lo.toNat / 16) := by
    rw [← Nat.shiftLeft_add_eq_or_of_lt (by omega), Nat.shiftLeft_eq]
  have hhiFits : hi.toNat <<< 12 < 2 ^ 20 := by rw [Nat.shiftLeft_eq]; omega
  have hmidFits : mid.toNat <<< 4 < 2 ^ 20 := by rw [Nat.shiftLeft_eq]; omega
  rw [count20, BitVec.or_assoc, Nat.add_assoc, ← hall, ← hlow]
  simp only [BitVec.toNat_or, BitVec.toNat_shiftLeft, BitVec.toNat_ushiftRight,
    BitVec.toNat_setWidth_of_le (show 8 ≤ 20 by decide), Nat.mod_eq_of_lt hhiFits, Nat.mod_eq_of_lt hmidFits]

/-- ADC_H is big-endian: le16 with its two bytes exchanged. -/
theorem burstH_eq_le16 (b : List Byte) : burstH b = le16 (byteAt b 7) (byteAt b 6) :=
  BitVec.or_comm _ _

theorem burstH_toNat (b : List Byte) : (burstH b).toNat = (byteAt b 6).toNat * 256 + (byteAt b 7).toNat := by
  rw [burstH_eq_le16, le16_toNat]
  omega

/-- Settles O11: ADC_P and ADC_T are each a 20-bit count of three bytes, ADC_H a 16-bit one of two. -/
theorem burstUnpackValues : Obligations.BurstUnpackValues := fun b =>
  ⟨fun _ => ⟨count20_toNat _ _ _, count20_toNat _ _ _⟩, fun _ => burstH_toNat b⟩

/-- A command that completes with the value of an unsigned register leaves it zero-extended in RESULT (R16, R31). -/
theorem complete_toNat {n : Nat} (c : Completion) (x : BitVec n) (s : State) :
    complete c x.toNat s = { s with port := s.port.completed c (x.setWidth 128) } := by
  rw [← BitVec.ofNat_toNat, ← BitVec.ofInt_natCast]
  rfl

/-- Settles O22: the decoder's row, and `complete OK(ARG)` on top of the write to INTERVAL. -/
theorem setIntervalStoresArg : Obligations.SetIntervalStoresArg :=
  ⟨rfl, fun s => congrArg Host.Outcome.next (complete_toNat .ok s.port.arg (setInterval s.port.arg s))⟩

/-! SUPPORT. ensure_fresh seen from the command: past its checks a command that refreshes is ensure_fresh and then its
own rest, and a stale sample makes ensure_fresh the conversion sequence (R193, R281). -/

theorem fresh_eq_true_iff (now : BitVec 64) (s : State) : fresh now s = true ↔ SampleFresh now s := by
  rw [fresh, Bool.and_eq_true, decide_eq_true_iff]
  rfl

theorem ensureFresh_of_stale {r : Reader} {k : Bool → State → Out} {s : State} (h : ¬SampleFresh s.port.arg s) :
    ensureFresh r k s = convert r k s :=
  if_neg (mt (fresh_eq_true_iff _ s).mp h)

/-- The checks a command that refreshes makes first are STATE and, in READ_HUM, VARIANT (R250, R281). -/
theorem exec_reader_of_ready {i : Instr} {r : Reader} {s : State} (hi : i.reader? = some r)
    (hready : s.port.state = .ready) (htph : r = .hum → s.port.variant = .tph) :
    exec i s = ensureFresh r (finish r) s := by
  cases i with
  | nop => cases hi
  | init => cases hi
  | setInterval => cases hi
  | refresh =>
    cases hi
    exact if_pos hready
  | readTemp =>
    cases hi
    exact if_pos hready
  | readPres =>
    cases hi
    exact if_pos hready
  | readHum =>
    cases hi
    exact (if_pos hready).trans (if_pos (htph rfl))

/-! SUPPORT. The conversion sequence event by event (R196, R200). -/

theorem convert_commErr {r : Reader} {k : Bool → State → Out} {s : State} {rest : List BusAnswer}
    (hbus : s.agents.bus = .commErr :: rest) :
    convert r k s = .next (endedWith .communicationError rest [controlEvent false] s) := by
  rw [convert, memWriteControl_fails hbus]
  rfl

theorem convert_answers {r : Reader} {k : Bool → State → Out} {s : State} {rest : List BusAnswer}
    (hbus : s.agents.bus = .ok :: rest) :
    convert r k s = readBurst r k (underway rest [controlEvent true, settleEvent] s) := by
  rw [convert, memWriteControl_answers hbus]
  exact congrArg (readBurst r k) (underway_underway rest rest [controlEvent true] [settleEvent] s)

theorem readBurst_commErr {r : Reader} {k : Bool → State → Out} {s : State} {rest : List BusAnswer}
    (hbus : s.agents.bus = .commErr :: rest) :
    readBurst r k s =
      .next (endedWith .communicationError rest [readEvent 0xF7 (burstLength s.port.variant) none] s) :=
  memRead_commErr (fun _ => rfl) hbus

/-- Settles O30: every such command is the conversion sequence here, which the control write ends at once, or the
burst after the control write and the Wait. -/
theorem failedRefreshKeepsTheCache : Obligations.FailedRefreshKeepsTheCache := by
  intro i r s rest hi hready htph hstale
  rw [exec_reader_of_ready hi hready htph, ensureFresh_of_stale hstale]
  constructor
  · exact convert_commErr
  · intro hbus
    rw [convert_answers hbus, readBurst_commErr rfl, endedWith_underway]
    rfl

end Sys2Proof.Machine

namespace Sys2Proof.Machine

/-! SUPPORT. The integer operations of R12 that the clamp of R238 and the zero divisor of R236 turn on. -/

theorem shr_le_shr {a b : Int} (h : a ≤ b) (k : Nat) : shr a k ≤ shr b k :=
  Int.ediv_le_ediv (by positivity) h

/-- Rounding down, and not toward zero, keeps the negative numbers off 0. -/
theorem shr_eq_zero_iff (a : Int) (k : Nat) : shr a k = 0 ↔ 0 ≤ a ∧ a < 2 ^ k := by
  rw [shr, Int.ediv_eq_iff_of_pos (by positivity), zero_mul, zero_add, Nat.cast_pow, Nat.cast_ofNat]

theorem clamp_mem_Icc (v : Int) {lo hi : Int} (h : lo ≤ hi) : clamp v lo hi ∈ Set.Icc lo hi := by
  rw [clamp]
  split
  · exact ⟨le_rfl, h⟩
  · split
    · exact ⟨h, le_rfl⟩
    · exact ⟨by omega, by omega⟩

/-- Settles O16: the shift keeps the order, so it carries the bounds of the clamp to their own shifts. -/
theorem humidityAlwaysClamped : Obligations.HumidityAlwaysClamped := by
  intro tf adcH h1 h2 h3 h4 h5 h6
  obtain ⟨hlo, hhi⟩ := clamp_mem_Icc (humRaw tf adcH h1 h2 h3 h4 h5 h6) (show (0 : Int) ≤ 419430400 by decide)
  exact ⟨shr_le_shr hlo 12, shr_le_shr hhi 12⟩

/-! SUPPORT. The divisor of the pressure (R236). -/

theorem pres_eq_none_iff (tf adcP p1 p2 p3 p4 p5 p6 p7 p8 p9 : Int) :
    pres tf adcP p1 p2 p3 p4 p5 p6 p7 p8 p9 = none ↔ presDivisor tf p1 p2 p3 = 0 := by
  rw [pres]
  split
  case isTrue hzero => exact iff_of_true rfl hzero
  case isFalse hzero => exact iff_of_false (Option.some_ne_none _) hzero

theorem presDivisor_eq_zero_iff (tf p1 p2 p3 : Int) :
    presDivisor tf p1 p2 p3 = 0 ↔
      0 ≤ (2 ^ 47 + presVar1 tf p2 p3) * p1 ∧ (2 ^ 47 + presVar1 tf p2 p3) * p1 < 2 ^ 33 :=
  shr_eq_zero_iff _ 33

theorem presDivisor_of_p1_eq_zero (tf p2 p3 : Int) : presDivisor tf 0 p2 p3 = 0 := by
  rw [presDivisor, mul_zero]
  rfl

/-- Settles O17: the pressure has no value only in the branch of a zero divisor, and a product with P1 = 0 is 0. -/
theorem pressureUndefinedExactlyAtZeroDivisor : Obligations.PressureUndefinedExactlyAtZeroDivisor := by
  intro tf adcP p1 p2 p3 p4 p5 p6 p7 p8 p9
  have hundef := pres_eq_none_iff tf adcP p1 p2 p3 p4 p5 p6 p7 p8 p9
  refine ⟨hundef, presDivisor_eq_zero_iff tf p1 p2 p3, fun hp1 => hundef.mpr ?_⟩
  rw [hp1, presDivisor_of_p1_eq_zero]

/-- READ_HUM checks VARIANT before ensure_fresh (R250, R251). -/
theorem exec_readHum_of_not_tph {s : State} (hready : s.port.state = .ready) (htph : s.port.variant ≠ .tph) :
    exec .readHum s = .next (raise .unsupportedOperation s) :=
  (if_pos hready).trans (if_neg htph)

/-- Settles O38: TP is not TPH, and the exception entry writes only COMPLETION and BUSY. -/
theorem readHumUnsupportedInTp : Obligations.ReadHumUnsupportedInTp := by
  intro s hready htp
  rw [exec_readHum_of_not_tph hready (by simp [htp])]
  rfl

end Sys2Proof.Machine

namespace Sys2Proof.Machine

/-! SUPPORT. What REFRESH and the READ_* commands do after ensure_fresh, as functions of the state: they compute the
output that is missing, and complete with it. -/

/-- The state with the fine temperature of its sample in T_FINE (R233). -/
def withTFine (s : State) : State := if s.cache.tfineValid then s else loadTFine s

/-- The state with the reader's own output computed from its sample; REFRESH has none (R240, R244, R250). -/
def withOutput (r : Reader) (s : State) : State :=
  match r with
  | .refresh => s
  | .temp => if s.cache.tValid then s else loadTOut (withTFine s).cache.tFine (withTFine s)
  | .pres => if s.cache.pValid then s else loadPOut (withTFine s).cache.tFine (withTFine s)
  | .hum => if s.cache.hValid then s else loadHOut (withTFine s).cache.tFine (withTFine s)

/-- The reader's own output is valid; REFRESH has none. -/
def Reader.outputValid (r : Reader) (s : State) : Bool :=
  match r with
  | .refresh => true
  | .temp => s.cache.tValid
  | .pres => s.cache.pValid
  | .hum => s.cache.hValid

/-- What computing the reader's output can do: nothing where it is valid, or one load after T_FINE. -/
theorem withOutput_rule {Q : State → Prop} {r : Reader} {s : State} (valid : r.outputValid s = true → Q s)
    (temp : r = .temp → Q (loadTOut (withTFine s).cache.tFine (withTFine s)))
    (pres : r = .pres → Q (loadPOut (withTFine s).cache.tFine (withTFine s)))
    (hum : r = .hum → Q (loadHOut (withTFine s).cache.tFine (withTFine s))) : Q (withOutput r s) := by
  cases r with
  | refresh => exact valid rfl
  | temp =>
    rw [withOutput]
    split
    · exact valid ‹_›
    · exact temp rfl
  | pres =>
    rw [withOutput]
    split
    · exact valid ‹_›
    · exact pres rfl
  | hum =>
    rw [withOutput]
    split
    · exact valid ‹_›
    · exact hum rfl

/-- The completion of the reader, from its output in the cache (R192, R240, R244, R250). -/
def answered (r : Reader) (converted : Bool) (s : State) : State :=
  match r with
  | .refresh => complete .ok (bit converted) s
  | .temp => completeTemp s
  | .pres => completePres s
  | .hum => completeHum s

theorem ensureTFine_eq (k : BitVec 23 → State → Out) (s : State) :
    ensureTFine k s = k (withTFine s).cache.tFine (withTFine s) := by
  rw [ensureTFine, withTFine]
  split <;> rfl

/-- After ensure_fresh a command always completes. -/
theorem finish_eq (r : Reader) (b : Bool) (s : State) : finish r b s = .next (answered r b (withOutput r s)) := by
  cases r with
  | refresh => rfl
  | temp =>
    rw [finish, finishTemp, ensureTFine_eq, withOutput, answered]
    split <;> rfl
  | pres =>
    rw [finish, finishPres, ensureTFine_eq, withOutput, answered]
    split <;> rfl
  | hum =>
    rw [finish, finishHum, ensureTFine_eq, withOutput, answered]
    split <;> rfl

/-- Whatever completePres reports, it is a completion. -/
theorem exists_completePres_eq (s : State) : ∃ c v, completePres s = complete c v s := by
  rw [completePres]
  split
  · exact ⟨_, _, rfl⟩
  · exact ⟨_, _, rfl⟩

theorem exists_answered_eq (r : Reader) (b : Bool) (s : State) : ∃ c v, answered r b s = complete c v s := by
  cases r with
  | refresh => exact ⟨_, _, rfl⟩
  | temp => exact ⟨_, _, rfl⟩
  | pres => exact exists_completePres_eq s
  | hum => exact ⟨_, _, rfl⟩

/-! SUPPORT. One walk through the machine for every invariant of the engine's registers: a property that each single
change of those registers keeps is kept by every step. -/

/-- Every next state the outcome answers has the property. -/
def Ensures (P : State → Prop) (o : Out) : Prop := ∀ t, o = .next t → P t

theorem ensures_next {P : State → Prop} {t : State} (h : P t) : Ensures P (.next t) := by
  rintro _ ⟨⟩
  exact h

theorem ensures_fault (P : State → Prop) (f : Fault) : Ensures P (.fault f) := by
  intro t ht
  cases ht

theorem ensures_refused (P : State → Prop) (q : Refusal) : Ensures P (.refused q) := by
  intro t ht
  cases ht

/-- STATE, VARIANT, the Calibration Store and the Sample Cache are the same in t as in s. -/
structure SameRegisters (s t : State) : Prop where
  state : t.port.state = s.port.state
  variant : t.port.variant = s.port.variant
  store : t.store = s.store
  cache : t.cache = s.cache

/-- What the command that goes on after ensure_fresh has checked before (R193, R250). -/
structure Reader.Enabled (r : Reader) (s : State) : Prop where
  ready : s.port.state = .ready
  tph : r = .hum → s.port.variant = .tph

/-- The property implies the engine invariant and is kept by each change the engine makes to STATE, VARIANT, the
Calibration Store, the Sample Cache or its open request, made where a command makes it. -/
structure StepClosed (P : State → Prop) : Prop where
  engine {s : State} : P s → EngineInvariant s
  keeps_same {s t : State} : P s → SameRegisters s t → t.port.pending = none → P t
  keeps_stall {p : Pending} {s : State} : p.lawful s = true → P s → P (stall p s)
  keeps_reset (s : State) : P (resetRegisters s)
  keeps_failIdentity {s : State} (id : Byte) : s.port.state = .uninit → P s →
    P (raise .unrecognizedDevice (failIdentity id s))
  keeps_commitTp {s : State} {id : Byte} (c : List Byte) : s.port.state = .uninit → variantOf id ≠ .none → P s →
    P (complete .ok id.toNat (commitTp id c s))
  keeps_commitHum {s : State} {id : Byte} (c e : List Byte) (a : Byte) : s.port.state = .uninit → variantOf id ≠ .none →
    P s → P (complete .ok id.toNat (commitHum a e (commitTp id c s)))
  keeps_loadSample {s : State} (now : BitVec 64) (b : List Byte) : s.port.state = .ready → P s → P (loadSample now b s)
  keeps_loadTFine {s : State} : s.cache.sampleValid = true → s.cache.tfineValid = false → P s → P (loadTFine s)
  keeps_loadTOut {s : State} : s.cache.tfineValid = true → P s → P (loadTOut s.cache.tFine s)
  keeps_loadPOut {s : State} : s.cache.tfineValid = true → P s → P (loadPOut s.cache.tFine s)
  keeps_loadHOut {s : State} : s.cache.tfineValid = true → s.port.variant = .tph → P s → P (loadHOut s.cache.tFine s)

theorem lawful_control_iff {r : Reader} {s : State} : (Pending.control r).lawful s = true ↔ r.Enabled s := by
  simp only [Pending.lawful, Bool.and_eq_true, Bool.or_eq_true, beq_iff_eq, bne_iff_ne, ← imp_iff_not_or]
  exact ⟨fun h => ⟨h.1, h.2⟩, fun h => ⟨h.ready, h.tph⟩⟩

/-- The two requests of a refresh are open under the same condition. -/
theorem lawful_burst_iff {r : Reader} {s : State} : (Pending.burst r).lawful s = true ↔ r.Enabled s :=
  lawful_control_iff

section Walk

variable {P : State → Prop}

theorem StepClosed.keeps_raise (hP : StepClosed P) (c : Completion) {s : State} (hs : P s) : P (raise c s) :=
  hP.keeps_same hs ⟨rfl, rfl, rfl, rfl⟩ rfl

theorem StepClosed.keeps_complete (hP : StepClosed P) (c : Completion) (v : Int) {s : State} (hs : P s) :
    P (complete c v s) :=
  hP.keeps_same hs ⟨rfl, rfl, rfl, rfl⟩ rfl

/-! The accessors -/

theorem withTFine_tfineValid (s : State) : (withTFine s).cache.tfineValid = true := by
  rw [withTFine]
  split
  · assumption
  · rfl

theorem withTFine_port (s : State) : (withTFine s).port = s.port := by
  rw [withTFine]
  split <;> rfl

theorem StepClosed.keeps_withTFine (hP : StepClosed P) {s : State} (hsample : s.cache.sampleValid = true) (hs : P s) :
    P (withTFine s) := by
  unfold withTFine
  split
  case isTrue => exact hs
  case isFalse hinvalid => exact hP.keeps_loadTFine hsample (Bool.eq_false_iff.mpr hinvalid) hs

theorem StepClosed.keeps_withOutput (hP : StepClosed P) {r : Reader} {s : State} (hr : r.Enabled s)
    (hsample : s.cache.sampleValid = true) (hs : P s) : P (withOutput r s) := by
  have hvalid := withTFine_tfineValid s
  have hfine := hP.keeps_withTFine hsample hs
  apply withOutput_rule
  case valid => exact fun _ => hs
  case temp => exact fun _ => hP.keeps_loadTOut hvalid hfine
  case pres => exact fun _ => hP.keeps_loadPOut hvalid hfine
  case hum => exact fun hhum => hP.keeps_loadHOut hvalid (by rw [withTFine_port, hr.tph hhum]) hfine

theorem StepClosed.ensures_finish (hP : StepClosed P) {r : Reader} {s : State} (hr : r.Enabled s)
    (hsample : s.cache.sampleValid = true) (hs : P s) (b : Bool) : Ensures P (finish r b s) := by
  rw [finish_eq]
  obtain ⟨c, v, heq⟩ := exists_answered_eq r b (withOutput r s)
  rw [heq]
  exact ensures_next (hP.keeps_complete c v (hP.keeps_withOutput hr hsample hs))

/-! The bus operations -/

theorem StepClosed.ensures_memRead (hP : StepClosed P) {off : Byte} {n : Nat} {p : Pending}
    {k : Option (List Byte) → State → Out} {s : State} (hp : p.lawful s = true) (hs : P s)
    (hfails : ∀ u, k none u = .next (raise .communicationError u))
    (hanswers : ∀ bs u, SameRegisters s u → P u → Ensures P (k (some bs) u)) : Ensures P (memRead off n p k s) := by
  have htaken : ∀ e rest, P (record e (takeAnswer rest s)) := fun _ _ => hP.keeps_same hs ⟨rfl, rfl, rfl, rfl⟩ rfl
  apply memRead_rule
  case waits => exact fun _ => ensures_next (hP.keeps_stall hp hs)
  case fails =>
    intro rest _
    rw [hfails]
    exact ensures_next (hP.keeps_raise _ (htaken _ rest))
  case answers => exact fun bs rest _ _ => hanswers bs _ ⟨rfl, rfl, rfl, rfl⟩ (htaken _ rest)
  case wrong => exact ensures_refused P _

theorem StepClosed.ensures_readBurst (hP : StepClosed P) {r : Reader} {s : State} (hr : r.Enabled s) (hs : P s) :
    Ensures P (readBurst r (finish r) s) := by
  refine hP.ensures_memRead (lawful_burst_iff.mpr hr) hs (fun _ => rfl) fun bs u hu hPu => ?_
  have hready : u.port.state = .ready := hu.state.trans hr.ready
  have hloaded := hP.keeps_loadSample u.port.arg bs hready hPu
  exact hP.ensures_finish (s := loadSample u.port.arg bs u) ⟨hready, fun h => hu.variant.trans (hr.tph h)⟩ rfl hloaded
    true

theorem StepClosed.ensures_convert (hP : StepClosed P) {r : Reader} {s : State} (hr : r.Enabled s) (hs : P s) :
    Ensures P (convert r (finish r) s) := by
  apply convert_rule
  case waits => exact fun _ => ensures_next (hP.keeps_stall (lawful_control_iff.mpr hr) hs)
  case fails => exact fun _ _ => ensures_next (hP.keeps_same hs ⟨rfl, rfl, rfl, rfl⟩ rfl)
  case answers => exact fun _ _ => hP.ensures_readBurst ⟨hr.ready, hr.tph⟩ (hP.keeps_same hs ⟨rfl, rfl, rfl, rfl⟩ rfl)
  case wrong => exact ensures_refused P _

theorem StepClosed.ensures_ensureFresh (hP : StepClosed P) {r : Reader} {s : State} (hr : r.Enabled s) (hs : P s) :
    Ensures P (ensureFresh r (finish r) s) := by
  apply ensureFresh_rule
  case reused => exact fun hfresh => hP.ensures_finish hr ((fresh_eq_true_iff _ s).mp hfresh).1 hs false
  case converts => exact fun _ => hP.ensures_convert hr hs

/-! INIT, from its last read back to its first -/

theorem StepClosed.ensures_readHumidityRest (hP : StepClosed P) {id : Byte} {s : State} (c : List Byte) (a : Byte)
    (huninit : s.port.state = .uninit) (hid : variantOf id = .tph) (hs : P s) :
    Ensures P (readHumidityRest id c a s) :=
  hP.ensures_memRead (by simp [Pending.lawful, huninit, hid]) hs (fun _ => rfl) fun e _ hu hPu =>
    ensures_next (hP.keeps_commitHum c e a (hu.state.trans huninit) (by simp [hid]) hPu)

theorem StepClosed.ensures_readHumidityFirst (hP : StepClosed P) {id : Byte} {s : State} (c : List Byte)
    (huninit : s.port.state = .uninit) (hid : variantOf id = .tph) (hs : P s) :
    Ensures P (readHumidityFirst id c s) :=
  hP.ensures_memRead (by simp [Pending.lawful, huninit, hid]) hs (fun _ => rfl) fun _ _ hu hPu =>
    hP.ensures_readHumidityRest c _ (hu.state.trans huninit) hid hPu

theorem StepClosed.ensures_readCalibration (hP : StepClosed P) {id : Byte} {s : State}
    (huninit : s.port.state = .uninit) (hid : variantOf id ≠ .none) (hs : P s) : Ensures P (readCalibration id s) := by
  refine hP.ensures_memRead (by simp [Pending.lawful, huninit, hid]) hs (fun _ => rfl) fun c u hu hPu => ?_
  have huninit' : u.port.state = .uninit := hu.state.trans huninit
  simp only [gotCalibration]
  split
  case isTrue htph => exact hP.ensures_readHumidityFirst c huninit' htph hPu
  case isFalse => exact ensures_next (hP.keeps_commitTp c huninit' hid hPu)

theorem StepClosed.ensures_readIdentity (hP : StepClosed P) {s : State} (huninit : s.port.state = .uninit) (hs : P s) :
    Ensures P (readIdentity s) := by
  refine hP.ensures_memRead (by simp [Pending.lawful, huninit]) hs (fun _ => rfl) fun bs u hu hPu => ?_
  have huninit' : u.port.state = .uninit := hu.state.trans huninit
  simp only [gotIdentity]
  split
  case isTrue => exact ensures_next (hP.keeps_failIdentity _ huninit' hPu)
  case isFalse hid => exact hP.ensures_readCalibration huninit' hid hPu

/-! The commands and the step -/

/-- A command that refreshes is stopped by a check, or its check has passed and it is ensure_fresh with its own rest
(R193, R250, R251, R281). -/
theorem exec_reader_rule {Q : Out → Prop} {i : Instr} {r : Reader} {s : State} (hi : i.reader? = some r)
    (notReady : s.port.state ≠ .ready → Q (.next (raise .notReady s)))
    (unsupported : r = .hum → s.port.state = .ready → s.port.variant ≠ .tph →
      Q (.next (raise .unsupportedOperation s)))
    (enabled : r.Enabled s → Q (ensureFresh r (finish r) s)) : Q (exec i s) := by
  by_cases hready : s.port.state = .ready
  case neg =>
    rw [exec_reader_of_not_ready hi hready]
    exact notReady hready
  case pos =>
    by_cases htph : r = .hum → s.port.variant = .tph
    case pos =>
      rw [exec_reader_of_ready hi hready htph]
      exact enabled ⟨hready, htph⟩
    case neg =>
      obtain ⟨rfl, hvariant⟩ := Classical.not_imp.mp htph
      cases i <;> cases hi
      rw [exec_readHum_of_not_tph hready hvariant]
      exact unsupported rfl hready hvariant

theorem StepClosed.ensures_exec (hP : StepClosed P) (i : Instr) {s : State} (hs : P s) : Ensures P (exec i s) := by
  have hreader : ∀ {r : Reader}, i.reader? = some r → Ensures P (exec i s) := by
    intro r hi
    apply exec_reader_rule hi
    case notReady => exact fun _ => ensures_next (hP.keeps_raise _ hs)
    case unsupported => exact fun _ _ _ => ensures_next (hP.keeps_raise _ hs)
    case enabled => exact fun hr => hP.ensures_ensureFresh hr hs
  cases i with
  | nop => exact ensures_next (hP.keeps_raise _ hs)
  | init =>
    cases hstate : s.port.state with
    | uninit =>
      rw [exec_init_of_uninit hstate]
      exact hP.ensures_readIdentity hstate hs
    | ready =>
      rw [exec_init_of_ready hstate]
      exact ensures_next (hP.keeps_raise _ hs)
    | failed =>
      rw [exec_init_of_failed hstate]
      exact ensures_next (hP.keeps_raise _ hs)
  | setInterval => exact ensures_next (hP.keeps_same hs ⟨rfl, rfl, rfl, rfl⟩ rfl)
  | refresh => exact hreader rfl
  | readTemp => exact hreader rfl
  | readPres => exact hreader rfl
  | readHum => exact hreader rfl

theorem StepClosed.ensures_resume (hP : StepClosed P) {p : Pending} {s : State} (hp : p.lawful s = true) (hs : P s) :
    Ensures P (resume p s) := by
  cases p with
  | control r => exact hP.ensures_convert (lawful_control_iff.mp hp) hs
  | burst r => exact hP.ensures_readBurst (lawful_burst_iff.mp hp) hs
  | identity => exact hP.ensures_readIdentity (by simpa [Pending.lawful] using hp) hs
  | calibration id =>
    obtain ⟨huninit, hid⟩ : s.port.state = .uninit ∧ variantOf id ≠ .none := by simpa [Pending.lawful] using hp
    exact hP.ensures_readCalibration huninit hid hs
  | humidityFirst id c =>
    obtain ⟨huninit, hid⟩ : s.port.state = .uninit ∧ variantOf id = .tph := by simpa [Pending.lawful] using hp
    exact hP.ensures_readHumidityFirst c huninit hid hs
  | humidityRest id c a =>
    obtain ⟨huninit, hid⟩ : s.port.state = .uninit ∧ variantOf id = .tph := by simpa [Pending.lawful] using hp
    exact hP.ensures_readHumidityRest c a huninit hid hs

/-- An idle engine has no open request (R28). -/
theorem EngineInvariant.pending_eq_none {s : State} (hinv : EngineInvariant s) (hb : s.port.busy = false) :
    s.port.pending = none := by
  obtain ⟨-, -, hpending⟩ := hinv
  cases hp : s.port.pending with
  | none => rfl
  | some p => simp [(hpending p hp).1] at hb

theorem StepClosed.ensures_idle (hP : StepClosed P) {s : State} (hb : s.port.busy = false) (hs : P s) :
    Ensures P (idle s) := by
  apply idle_rule hb
  case rests => exact fun _ => ensures_next hs
  case issued => exact fun _ _ _ _ => ensures_next (hP.keeps_same hs ⟨rfl, rfl, rfl, rfl⟩ rfl)
  case reset => exact fun _ _ => ensures_next (hP.keeps_reset _)
  case seen =>
    exact fun _ _ _ => ensures_next (hP.keeps_same hs ⟨rfl, rfl, rfl, rfl⟩ ((hP.engine hs).pending_eq_none hb))
  case fault => exact ensures_fault P
  case refused => exact ensures_refused P

/-- A property that every single change keeps is kept by every step. -/
theorem StepClosed.ensures_step (hP : StepClosed P) {s : State} (hs : P s) : Ensures P (step s) := by
  apply step_rule
  case idles => exact fun hb => hP.ensures_idle hb hs
  case resumes => exact fun p _ hp => hP.ensures_resume ((hP.engine hs).pending_lawful hp) hs
  case executes => exact fun i _ _ _ => hP.ensures_exec i hs
  case illegal => exact fun _ _ _ => ensures_next (hP.keeps_raise _ hs)

end Walk

/-! SUPPORT. The engine invariant, change by change (R25, R26, R43). -/

theorem EngineInvariant.same {s t : State} (hs : EngineInvariant s) (h : SameRegisters s t)
    (hp : t.port.pending = none) : EngineInvariant t := by
  obtain ⟨hcache, hvariant, -⟩ := hs
  obtain ⟨hstate, hvar, hstore, hc⟩ := h
  refine ⟨?_, ?_, by simp [PendingInvariant, hp]⟩
  · simpa only [CacheInvariant, hstate, hvar, hstore, hc] using hcache
  · simpa only [VariantInvariant, hstate, hvar] using hvariant

/-- What an open request says of the registers, it says whatever request stands in port.pending. -/
theorem EngineInvariant.stall {p : Pending} {s : State} (hp : p.lawful s = true) (hs : EngineInvariant s) :
    EngineInvariant (stall p s) := by
  obtain ⟨hcache, hvariant, -⟩ := hs
  refine ⟨hcache, hvariant, ?_⟩
  rintro _ ⟨⟩
  exact ⟨rfl, by cases p <;> exact hp⟩

theorem engineInvariant_reset (s : State) : EngineInvariant (resetRegisters s) := by
  refine ⟨?_, ?_, nofun⟩
  · simp [CacheInvariant, State.reset, SampleCache.reset, CalibStore.reset, Port.reset]
  · simp [VariantInvariant, State.reset, Port.reset]

/-- The outputs are computed after T_FINE, so without TFINE_VALID none is valid (R43). -/
theorem EngineInvariant.no_output_valid {s : State} (hs : EngineInvariant s) (h : s.cache.tfineValid = false) :
    s.cache.tValid = false ∧ s.cache.pValid = false ∧ s.cache.hValid = false := by
  obtain ⟨⟨-, hout, -⟩, -⟩ := hs
  simpa [h, not_or] using hout

/-- Before INIT has succeeded nothing is cached: no calibration, so no sample, so no fine temperature (R43). -/
theorem EngineInvariant.nothing_cached {s : State} (hs : EngineInvariant s) (h : s.port.state ≠ .ready) :
    s.cache.sampleValid = false ∧ s.cache.tfineValid = false ∧ s.cache.tValid = false ∧ s.cache.pValid = false ∧
      s.cache.pUndef = false ∧ s.cache.hValid = false := by
  have hcalib := (hs.uncalibrated h).2
  have ⟨⟨himpFine, _, _, himpSample, himpUndef, _⟩, _⟩ := hs
  have hsample : s.cache.sampleValid = false := by simpa [hcalib] using himpSample
  have hfine : s.cache.tfineValid = false := by simpa [hsample] using himpFine
  obtain ⟨ht, hp, hh⟩ := hs.no_output_valid hfine
  exact ⟨hsample, hfine, ht, hp, by simpa [hp] using himpUndef, hh⟩

theorem engineInvariant_stepClosed : StepClosed EngineInvariant where
  engine := id
  keeps_same := EngineInvariant.same
  keeps_stall := EngineInvariant.stall
  keeps_reset := engineInvariant_reset
  keeps_failIdentity id huninit hs := by
    have huncal := hs.uncalibrated (by simp [huninit])
    have hempty := hs.nothing_cached (by simp [huninit])
    exact ⟨by simp [CacheInvariant, huncal, hempty], by simp [VariantInvariant, huncal], nofun⟩
  keeps_commitTp c huninit hid hs := by
    have hempty := hs.nothing_cached (by simp [huninit])
    exact ⟨by simp [CacheInvariant, hempty], by simp [VariantInvariant, hid], nofun⟩
  keeps_commitHum c e a huninit hid hs := by
    have hempty := hs.nothing_cached (by simp [huninit])
    exact ⟨by simp [CacheInvariant, hempty], by simp [VariantInvariant, hid], nofun⟩
  keeps_loadSample now b hready hs := by
    obtain ⟨⟨-, -, -, -, -, hcalib⟩, hvariant, hpending⟩ := hs
    exact ⟨by simp [CacheInvariant, hcalib, hready], hvariant, hpending⟩
  keeps_loadTFine hsample hinvalid hs := by
    obtain ⟨⟨-, -, htph, hcalib, hundef, hready⟩, hvariant, hpending⟩ := hs
    exact ⟨⟨fun _ => hsample, fun _ => rfl, htph, hcalib, hundef, hready⟩, hvariant, hpending⟩
  keeps_loadTOut hfine hs := by
    obtain ⟨⟨hsample, -, htph, hcalib, hundef, hready⟩, hvariant, hpending⟩ := hs
    exact ⟨⟨hsample, fun _ => hfine, htph, hcalib, hundef, hready⟩, hvariant, hpending⟩
  keeps_loadPOut hfine hs := by
    obtain ⟨⟨hsample, -, htph, hcalib, -, hready⟩, hvariant, hpending⟩ := hs
    exact ⟨⟨hsample, fun _ => hfine, htph, hcalib, fun _ => rfl, hready⟩, hvariant, hpending⟩
  keeps_loadHOut hfine htph hs := by
    obtain ⟨⟨hsample, -, -, hcalib, hundef, hready⟩, hvariant, hpending⟩ := hs
    exact ⟨⟨hsample, fun _ => hfine, fun _ => htph, hcalib, hundef, hready⟩, hvariant, hpending⟩

/-- Settles O47: each change the engine makes keeps the invariant, so the walk through a step does. -/
theorem stepKeepsEngineInvariant : Obligations.StepKeepsEngineInvariant :=
  fun _ t hs hstep => engineInvariant_stepClosed.ensures_step hs t hstep

/-! SUPPORT. The coherence of the cache, change by change: no change leaves an old valid bit over a new input. -/

/-- With no valid bit set there is nothing to agree with the sample. -/
theorem cacheCoherent_of_nothing_valid {s : State} (hfine : s.cache.tfineValid = false)
    (ht : s.cache.tValid = false) (hp : s.cache.pValid = false) (hh : s.cache.hValid = false) : CacheCoherent s := by
  simp [CacheCoherent, hfine, ht, hp, hh]

theorem CacheCoherent.same {s t : State} (hs : CacheCoherent s) (hstore : t.store = s.store)
    (hcache : t.cache = s.cache) : CacheCoherent t := by
  simpa only [CacheCoherent, hstore, hcache] using hs

/-- INIT's commit finds an empty cache (R43). -/
theorem EngineInvariant.cacheCoherent_of_not_ready {s t : State} (hs : EngineInvariant s)
    (h : s.port.state ≠ .ready) (hcache : t.cache = s.cache) : CacheCoherent t := by
  obtain ⟨-, hfine, ht, hp, -, hh⟩ := hs.nothing_cached h
  exact cacheCoherent_of_nothing_valid (by rw [hcache, hfine]) (by rw [hcache, ht]) (by rw [hcache, hp])
    (by rw [hcache, hh])

theorem cacheCoherent_stepClosed : StepClosed fun s => EngineInvariant s ∧ CacheCoherent s where
  engine := And.left
  keeps_same hs h hp := ⟨engineInvariant_stepClosed.keeps_same hs.1 h hp, hs.2.same h.store h.cache⟩
  keeps_stall hp hs := ⟨engineInvariant_stepClosed.keeps_stall hp hs.1, hs.2.same rfl rfl⟩
  keeps_reset s := ⟨engineInvariant_reset s, cacheCoherent_of_nothing_valid rfl rfl rfl rfl⟩
  keeps_failIdentity id huninit hs :=
    ⟨engineInvariant_stepClosed.keeps_failIdentity id huninit hs.1, hs.2.same rfl rfl⟩
  keeps_commitTp c huninit hid hs :=
    ⟨engineInvariant_stepClosed.keeps_commitTp c huninit hid hs.1,
      hs.1.cacheCoherent_of_not_ready (by simp [huninit]) rfl⟩
  keeps_commitHum c e a huninit hid hs :=
    ⟨engineInvariant_stepClosed.keeps_commitHum c e a huninit hid hs.1,
      hs.1.cacheCoherent_of_not_ready (by simp [huninit]) rfl⟩
  keeps_loadSample now b hready hs :=
    ⟨engineInvariant_stepClosed.keeps_loadSample now b hready hs.1, cacheCoherent_of_nothing_valid rfl rfl rfl rfl⟩
  keeps_loadTFine hsample hinvalid hs := by
    refine ⟨engineInvariant_stepClosed.keeps_loadTFine hsample hinvalid hs.1, ?_⟩
    obtain ⟨ht, hp, hh⟩ := hs.1.no_output_valid hinvalid
    exact ⟨fun _ => rfl, by simp [ht], by simp [hp], by simp [hh]⟩
  keeps_loadTOut hfine hs := by
    refine ⟨engineInvariant_stepClosed.keeps_loadTOut hfine hs.1, ?_⟩
    obtain ⟨htf, -, hp, hh⟩ := hs.2
    exact ⟨htf, fun _ => rfl, hp, hh⟩
  keeps_loadPOut hfine hs := by
    refine ⟨engineInvariant_stepClosed.keeps_loadPOut hfine hs.1, ?_⟩
    obtain ⟨htf, ht, -, hh⟩ := hs.2
    exact ⟨htf, ht, fun _ => rfl, hh⟩
  keeps_loadHOut hfine htph hs := by
    refine ⟨engineInvariant_stepClosed.keeps_loadHOut hfine htph hs.1, ?_⟩
    obtain ⟨htf, ht, hp, -⟩ := hs.2
    exact ⟨htf, ht, hp, fun _ => rfl⟩

/-- Settles O48: each change the engine makes keeps the cache coherent, given the engine invariant. -/
theorem stepKeepsCacheCoherent : Obligations.StepKeepsCacheCoherent :=
  fun _ t hs hcoherent hstep => (cacheCoherent_stepClosed.ensures_step ⟨hs, hcoherent⟩ t hstep).2

/-- Settles O46: reset is one of the changes that give the invariants, whatever the state was. -/
theorem resetMeetsTheInvariants : Obligations.ResetMeetsTheInvariants :=
  cacheCoherent_stepClosed.keeps_reset State.reset

end Sys2Proof.Machine

namespace Sys2Proof.Machine

/-! SUPPORT. Bounds of the integer operations of R12: what each does to a bound of its operands. -/

theorem shr_mem_Icc {a lo hi : Int} (h : a ∈ Set.Icc lo hi) (k : Nat) : shr a k ∈ Set.Icc (shr lo k) (shr hi k) :=
  ⟨shr_le_shr h.1 k, shr_le_shr h.2 k⟩

/-- A product lies between the least and the greatest product of the bounds of its factors. -/
theorem mul_mem_Icc {a b al ah bl bh lo hi : Int} (ha : a ∈ Set.Icc al ah) (hb : b ∈ Set.Icc bl bh)
    (hll : al * bl ∈ Set.Icc lo hi) (hlh : al * bh ∈ Set.Icc lo hi) (hhl : ah * bl ∈ Set.Icc lo hi)
    (hhh : ah * bh ∈ Set.Icc lo hi) : a * b ∈ Set.Icc lo hi := by
  obtain ⟨hal, hah⟩ := ha
  obtain ⟨hbl, hbh⟩ := hb
  have hedge : ∀ y, al * y ∈ Set.Icc lo hi → ah * y ∈ Set.Icc lo hi → a * y ∈ Set.Icc lo hi := by
    intro y hl hh
    rcases le_total 0 y with hy | hy
    · exact ⟨hl.1.trans (mul_le_mul_of_nonneg_right hal hy), (mul_le_mul_of_nonneg_right hah hy).trans hh.2⟩
    · exact ⟨hh.1.trans (mul_le_mul_of_nonpos_right hah hy), (mul_le_mul_of_nonpos_right hal hy).trans hl.2⟩
  have hl := hedge bl hll hhl
  have hh := hedge bh hlh hhh
  rcases le_total 0 a with ha0 | ha0
  · exact ⟨hl.1.trans (mul_le_mul_of_nonneg_left hbl ha0), (mul_le_mul_of_nonneg_left hbh ha0).trans hh.2⟩
  · exact ⟨hh.1.trans (mul_le_mul_of_nonpos_left hbh ha0), (mul_le_mul_of_nonpos_left hbl ha0).trans hl.2⟩

theorem abs_mul_bound {a b A B : Int} (ha : |a| ≤ A) (hb : |b| ≤ B) : |a * b| ≤ A * B := by
  rw [abs_mul]
  exact mul_le_mul ha hb (abs_nonneg b) ((abs_nonneg a).trans ha)

theorem abs_add_bound {a b A B : Int} (ha : |a| ≤ A) (hb : |b| ≤ B) : |a + b| ≤ A + B :=
  (abs_add_le a b).trans (add_le_add ha hb)

theorem abs_sub_bound {a b A B : Int} (ha : |a| ≤ A) (hb : |b| ≤ B) : |a - b| ≤ A + B :=
  (abs_sub a b).trans (add_le_add ha hb)

theorem abs_shl_bound {a A : Int} (ha : |a| ≤ A) (k : Nat) : |shl a k| ≤ A * 2 ^ k :=
  abs_mul_bound ha (by simp)

/-- Rounding down can enlarge a negative number by less than 1. -/
theorem abs_shr_bound {a A : Int} (ha : |a| ≤ A) (k : Nat) : |shr a k| ≤ A / 2 ^ k + 1 := by
  obtain ⟨hlo, hhi⟩ := abs_le.mp ha
  have hpos : (0 : Int) < 2 ^ k := by positivity
  have hneg : -(A / 2 ^ k + 1) ≤ -A / 2 ^ k := by
    rw [Int.le_ediv_iff_mul_le hpos]
    nlinarith [Int.lt_ediv_add_one_mul_self A hpos]
  have hlow : -A / 2 ^ k ≤ shr a k := by simpa [shr] using shr_le_shr hlo k
  have hhigh : shr a k ≤ A / 2 ^ k := by simpa [shr] using shr_le_shr hhi k
  exact abs_le.mpr ⟨hneg.trans hlow, by omega⟩

theorem abs_tdiv_bound {a A : Int} (ha : |a| ≤ A) (b : Int) : |tdiv a b| ≤ A := by
  rw [tdiv, Int.abs_eq_natAbs, Int.natAbs_tdiv]
  rw [Int.abs_eq_natAbs] at ha
  exact (Int.ofNat_le.mpr (Nat.div_le_self _ _)).trans ha

theorem abs_toNat_le {n : Nat} (x : BitVec n) : |(x.toNat : Int)| ≤ 2 ^ n := by
  rw [Nat.abs_cast]
  exact_mod_cast x.isLt.le

theorem abs_toInt_le {n : Nat} (x : BitVec (n + 1)) : |x.toInt| ≤ 2 ^ n :=
  abs_le.mpr ⟨by simpa using BitVec.le_toInt x, by simpa using (BitVec.toInt_lt (x := x)).le⟩

theorem abs_lt_of_mem_Icc {a lo hi N : Int} (h : a ∈ Set.Icc lo hi) (hlo : -N < lo := by decide)
    (hhi : hi < N := by decide) : |a| < N :=
  abs_lt.mpr ⟨hlo.trans_le h.1, h.2.trans_lt hhi⟩

theorem abs_lt_of_abs_le {a A N : Int} (h : |a| ≤ A) (hA : A < N := by norm_num) : |a| < N := h.trans_lt hA

theorem toNat_mem_Icc {n : Nat} (x : BitVec n) : (x.toNat : Int) ∈ Set.Icc 0 (2 ^ n - 1) :=
  ⟨Int.natCast_nonneg _, Int.le_sub_one_of_lt (by exact_mod_cast x.isLt)⟩

theorem toInt_mem_Icc {n : Nat} (x : BitVec (n + 1)) : x.toInt ∈ Set.Icc (-2 ^ n) (2 ^ n - 1) :=
  ⟨by simpa using BitVec.le_toInt x, Int.le_sub_one_of_lt (by simpa using BitVec.toInt_lt (x := x))⟩

/-! SUPPORT. The temperature's datapath, bound by bound (R262). -/

section Temperature

variable {adcT t1 t2 t3 : Int} (hadc : adcT ∈ Set.Icc 0 1048575) (ht1 : t1 ∈ Set.Icc 0 65535)
  (ht2 : t2 ∈ Set.Icc (-32768) 32767) (ht3 : t3 ∈ Set.Icc (-32768) 32767)

include hadc ht1

theorem tfine_difference3_mem : shr adcT 3 - shl t1 1 ∈ Set.Icc (-131070) 131071 := by
  have h := shr_mem_Icc hadc 3
  norm_num [shr, shl] at h ht1 ⊢
  omega

theorem tfine_difference4_mem : shr adcT 4 - t1 ∈ Set.Icc (-65535) 65535 := by
  have h := shr_mem_Icc hadc 4
  norm_num [shr] at h ht1 ⊢
  omega

theorem tfine_square_mem : (shr adcT 4 - t1) * (shr adcT 4 - t1) ∈ Set.Icc 0 4294836225 := by
  have hd := tfine_difference4_mem hadc ht1
  exact ⟨mul_self_nonneg _, (mul_mem_Icc hd hd (by decide) (by decide) (by decide) (by decide) :
    _ ∈ Set.Icc (-4294836225) 4294836225).2⟩

theorem tfine_squareShifted_mem : shr ((shr adcT 4 - t1) * (shr adcT 4 - t1)) 12 ∈ Set.Icc 0 1048544 :=
  shr_mem_Icc (tfine_square_mem hadc ht1) 12

include ht2 in
theorem tfine_product1_mem : (shr adcT 3 - shl t1 1) * t2 ∈ Set.Icc (-4294934528) 4294901760 :=
  mul_mem_Icc (tfine_difference3_mem hadc ht1) ht2 (by decide) (by decide) (by decide) (by decide)

include ht3 in
theorem tfine_product2_mem :
    shr ((shr adcT 4 - t1) * (shr adcT 4 - t1)) 12 * t3 ∈ Set.Icc (-34358689792) 34357641248 :=
  mul_mem_Icc (tfine_squareShifted_mem hadc ht1) ht3 (by decide) (by decide) (by decide) (by decide)

include ht2 in
theorem tfineVar1_mem : tfineVar1 adcT t1 t2 ∈ Set.Icc (-2097136) 2097120 :=
  shr_mem_Icc (tfine_product1_mem hadc ht1 ht2) 11

include ht3 in
theorem tfineVar2_mem : tfineVar2 adcT t1 t3 ∈ Set.Icc (-2097088) 2097024 :=
  shr_mem_Icc (tfine_product2_mem hadc ht1 ht3) 14

include ht2 ht3 in
theorem tfine_mem : tfine adcT t1 t2 t3 ∈ Set.Icc (-4194224) 4194144 := by
  obtain ⟨hlo1, hhi1⟩ := tfineVar1_mem hadc ht1 ht2
  obtain ⟨hlo2, hhi2⟩ := tfineVar2_mem hadc ht1 ht3
  rw [tfine]
  exact ⟨by omega, by omega⟩

include ht2 ht3 in
theorem abs_tfineSteps_lt : ∀ v ∈ tfineSteps adcT t1 t2 t3, |v| < 2 ^ 35 := by
  have hshl : shl t1 1 ∈ Set.Icc 0 131070 := by
    norm_num [shl] at ht1 ⊢
    omega
  exact List.forall_iff_forall_mem.mp ⟨abs_lt_of_mem_Icc hadc, abs_lt_of_mem_Icc ht1, abs_lt_of_mem_Icc ht2,
    abs_lt_of_mem_Icc ht3, abs_lt_of_mem_Icc (shr_mem_Icc hadc 3), abs_lt_of_mem_Icc hshl,
    abs_lt_of_mem_Icc (tfine_difference3_mem hadc ht1), abs_lt_of_mem_Icc (tfine_product1_mem hadc ht1 ht2),
    abs_lt_of_mem_Icc (tfineVar1_mem hadc ht1 ht2), abs_lt_of_mem_Icc (shr_mem_Icc hadc 4),
    abs_lt_of_mem_Icc (tfine_difference4_mem hadc ht1), abs_lt_of_mem_Icc (tfine_square_mem hadc ht1),
    abs_lt_of_mem_Icc (tfine_squareShifted_mem hadc ht1), abs_lt_of_mem_Icc (tfine_product2_mem hadc ht1 ht3),
    abs_lt_of_mem_Icc (tfineVar2_mem hadc ht1 ht3), abs_lt_of_mem_Icc (tfine_mem hadc ht1 ht2 ht3)⟩

end Temperature

/-- The scaled fine temperature before the shift of R234. -/
theorem temp_operand_mem {tf lo hi : Int} (h : tf ∈ Set.Icc lo hi) :
    tf * 5 + 128 ∈ Set.Icc (lo * 5 + 128) (hi * 5 + 128) := by
  obtain ⟨hlo, hhi⟩ := h
  exact ⟨by omega, by omega⟩

theorem temp_mem {tf lo hi : Int} (h : tf ∈ Set.Icc lo hi) : temp tf ∈ Set.Icc (temp lo) (temp hi) :=
  shr_mem_Icc (temp_operand_mem h) 8

theorem abs_tempSteps_lt {tf : Int} (h : tf ∈ Set.Icc (-4194224) 4194144) : ∀ v ∈ tempSteps tf, |v| < 2 ^ 35 := by
  have hfive : tf * 5 ∈ Set.Icc (-20971120) 20970720 := by
    obtain ⟨hlo, hhi⟩ := h
    exact ⟨by omega, by omega⟩
  exact List.forall_iff_forall_mem.mp ⟨abs_lt_of_mem_Icc h, abs_lt_of_mem_Icc hfive,
    abs_lt_of_mem_Icc (temp_operand_mem h), abs_lt_of_mem_Icc (temp_mem h)⟩

theorem tfineOf_mem (adcT : BitVec 20) (c : TpCoeffs) : tfineOf adcT c ∈ Set.Icc (-4194224) 4194144 :=
  tfine_mem (toNat_mem_Icc adcT) (toNat_mem_Icc c.t1) (toInt_mem_Icc c.t2) (toInt_mem_Icc c.t3)

/-- Settles O12: the bounds of each intermediate, carried from the registers' ranges through R232 and R234. -/
theorem temperatureDatapathWidths : Obligations.TemperatureDatapathWidths := by
  intro adcT c
  have hfine := tfineOf_mem adcT c
  have htemp := temp_mem hfine
  refine ⟨List.forall_mem_append.mpr ⟨?_, abs_tempSteps_lt hfine⟩, hfine.1, hfine.2, htemp.1, htemp.2⟩
  exact abs_tfineSteps_lt (toNat_mem_Icc adcT) (toNat_mem_Icc c.t1) (toInt_mem_Icc c.t2) (toInt_mem_Icc c.t3)

/-! SUPPORT. The pressure's datapath, bound by bound (R262). Each bound is the one the operators of R235 give from the
registers' ranges, left unevaluated until it is compared. -/

theorem abs_tFine_sub_le (tf : BitVec 23) {k : Int} (hk : 0 ≤ k) : |tf.toInt - k| ≤ 2 ^ 22 + k :=
  abs_sub_bound (abs_toInt_le tf) (abs_of_nonneg hk).le

section Pressure

variable (tf : BitVec 23) (adcP : BitVec 20) (c : TpCoeffs)

theorem abs_presOperand_le : |tf.toInt - 128000| ≤ 4322304 := abs_tFine_sub_le tf (by decide)

theorem abs_presSquare_le : |(tf.toInt - 128000) * (tf.toInt - 128000)| ≤ 4322304 * 4322304 :=
  abs_mul_bound (abs_presOperand_le tf) (abs_presOperand_le tf)

theorem abs_presDivisorSteps_lt :
    ∀ v ∈ presDivisorSteps tf.toInt c.p1.toNat c.p2.toInt c.p3.toInt, |v| < 2 ^ 131 := by
  have hv := abs_presOperand_le tf
  have hvv := abs_presSquare_le tf
  have hvvp3 := abs_mul_bound hvv (abs_toInt_le c.p3)
  have hvp2 := abs_mul_bound hv (abs_toInt_le c.p2)
  have hvar1 := abs_add_bound (abs_shr_bound hvvp3 8) (abs_shl_bound hvp2 12)
  have hone : |shl 1 47| ≤ 2 ^ 47 := by decide
  have hsum := abs_add_bound hone hvar1
  have hproduct := abs_mul_bound hsum (abs_toNat_le c.p1)
  exact List.forall_iff_forall_mem.mp ⟨abs_lt_of_abs_le (abs_toInt_le tf),
    abs_lt_of_abs_le (abs_toNat_le c.p1), abs_lt_of_abs_le (abs_toInt_le c.p2),
    abs_lt_of_abs_le (abs_toInt_le c.p3), abs_lt_of_abs_le hv, abs_lt_of_abs_le hvv,
    abs_lt_of_abs_le hvvp3, abs_lt_of_abs_le (abs_shr_bound hvvp3 8), abs_lt_of_abs_le hvp2,
    abs_lt_of_abs_le (abs_shl_bound hvp2 12), abs_lt_of_abs_le hvar1, abs_lt_of_abs_le hone,
    abs_lt_of_abs_le hsum, abs_lt_of_abs_le hproduct, abs_lt_of_abs_le (abs_shr_bound hproduct 33)⟩

/-- The bound of var2 that the operators of R235 give. -/
theorem abs_presVar2_le : |presVar2 tf.toInt c.p4.toInt c.p5.toInt c.p6.toInt| ≤
    4322304 * 4322304 * 2 ^ 15 + 4322304 * 2 ^ 15 * 2 ^ 17 + 2 ^ 15 * 2 ^ 35 :=
  abs_add_bound
    (abs_add_bound (abs_mul_bound (abs_presSquare_le tf) (abs_toInt_le c.p6))
      (abs_shl_bound (abs_mul_bound (abs_presOperand_le tf) (abs_toInt_le c.p5)) 17))
    (abs_shl_bound (abs_toInt_le c.p4) 35)

theorem abs_presVar2Steps_lt :
    ∀ v ∈ presVar2Steps tf.toInt c.p4.toInt c.p5.toInt c.p6.toInt, |v| < 2 ^ 131 := by
  have hv := abs_presOperand_le tf
  have hvv := abs_presSquare_le tf
  have hvvp6 := abs_mul_bound hvv (abs_toInt_le c.p6)
  have hvp5 := abs_mul_bound hv (abs_toInt_le c.p5)
  have hsum := abs_add_bound hvvp6 (abs_shl_bound hvp5 17)
  exact List.forall_iff_forall_mem.mp ⟨abs_lt_of_abs_le (abs_toInt_le tf), abs_lt_of_abs_le (abs_toInt_le c.p4),
    abs_lt_of_abs_le (abs_toInt_le c.p5), abs_lt_of_abs_le (abs_toInt_le c.p6), abs_lt_of_abs_le hv,
    abs_lt_of_abs_le hvv, abs_lt_of_abs_le hvvp6, abs_lt_of_abs_le hvp5, abs_lt_of_abs_le (abs_shl_bound hvp5 17),
    abs_lt_of_abs_le hsum, abs_lt_of_abs_le (abs_shl_bound (abs_toInt_le c.p4) 35),
    abs_lt_of_abs_le (abs_presVar2_le tf c)⟩

/-- The steps after the divisor, for every divisor: a truncating division does not enlarge its dividend. -/
theorem abs_presTailSteps_lt (divisor : Int) :
    (∀ v ∈ presTailSteps adcP.toNat (presVar2 tf.toInt c.p4.toInt c.p5.toInt c.p6.toInt) divisor c.p7.toInt
      c.p8.toInt c.p9.toInt, |v| < 2 ^ 131) ∧
    |presCorrected (presQuotient adcP.toNat (presVar2 tf.toInt c.p4.toInt c.p5.toInt c.p6.toInt) divisor)
      c.p7.toInt c.p8.toInt c.p9.toInt| < 2 ^ 98 := by
  have hadc : |(adcP.toNat : Int)| ≤ 2 ^ 20 := abs_toNat_le adcP
  have hbase : |1048576 - (adcP.toNat : Int)| ≤ 2 ^ 20 := by
    obtain ⟨hlo, hhi⟩ := toNat_mem_Icc adcP
    exact abs_le.mpr ⟨by omega, by omega⟩
  have hn := abs_sub_bound (abs_shl_bound hbase 31) (abs_presVar2_le tf c)
  have hn3125 := abs_mul_bound hn (show |3125| ≤ 3125 by decide)
  have hp := abs_tdiv_bound hn3125 divisor
  have hp13 := abs_shr_bound hp 13
  have hp9 := abs_mul_bound (abs_toInt_le c.p9) hp13
  have hp99 := abs_mul_bound hp9 hp13
  have hc := abs_shr_bound hp99 25
  have hp8 := abs_mul_bound (abs_toInt_le c.p8) hp
  have he := abs_shr_bound hp8 19
  have hpc := abs_add_bound hp hc
  have hpce := abs_add_bound hpc he
  have hp7 := abs_shl_bound (abs_toInt_le c.p7) 4
  have hr := abs_add_bound (abs_shr_bound hpce 8) hp7
  exact ⟨List.forall_iff_forall_mem.mp ⟨abs_lt_of_abs_le hadc, abs_lt_of_abs_le (abs_toInt_le c.p7),
    abs_lt_of_abs_le (abs_toInt_le c.p8), abs_lt_of_abs_le (abs_toInt_le c.p9), abs_lt_of_abs_le hbase,
    abs_lt_of_abs_le (abs_shl_bound hbase 31), abs_lt_of_abs_le hn, abs_lt_of_abs_le hn3125, abs_lt_of_abs_le hp,
    abs_lt_of_abs_le hp13, abs_lt_of_abs_le hp9, abs_lt_of_abs_le hp99, abs_lt_of_abs_le hc, abs_lt_of_abs_le hp8,
    abs_lt_of_abs_le he, abs_lt_of_abs_le hpc, abs_lt_of_abs_le hpce, abs_lt_of_abs_le (abs_shr_bound hpce 8),
    abs_lt_of_abs_le hp7, abs_lt_of_abs_le hr⟩, abs_lt_of_abs_le hr⟩

/-- A defined pressure is the corrected quotient (R235). -/
theorem eq_presCorrected_of_presOf {r : Int} (h : presOf tf adcP c = some r) :
    r = presCorrected (presQuotient adcP.toNat (presVar2 tf.toInt c.p4.toInt c.p5.toInt c.p6.toInt)
      (presDivisor tf.toInt c.p1.toNat c.p2.toInt c.p3.toInt)) c.p7.toInt c.p8.toInt c.p9.toInt := by
  rw [presOf, pres] at h
  split at h
  · cases h
  · exact (Option.some.inj h).symm

end Pressure

/-- Settles O13: the steps to the divisor, those of var2, and the tail for the divisor at hand. -/
theorem pressureDatapathWidths : Obligations.PressureDatapathWidths := by
  intro tf adcP c var2 divisor
  refine ⟨List.forall_mem_append.mpr ⟨abs_presDivisorSteps_lt tf c, abs_presVar2Steps_lt tf c⟩, fun r hr => ?_⟩
  obtain ⟨hsteps, hresult⟩ := abs_presTailSteps_lt tf adcP c divisor
  exact ⟨hsteps, eq_presCorrected_of_presOf tf adcP c hr ▸ hresult⟩

/-! SUPPORT. The humidity's datapath, bound by bound (R262). -/

theorem abs_humSteps_lt (tf : BitVec 23) (adcH : BitVec 16) (c : HumCoeffs) :
    ∀ v ∈ humSteps tf.toInt adcH.toNat c.h1.toInt c.h2.toInt c.h3.toInt c.h4.toInt c.h5.toInt c.h6.toInt,
      |v| < 2 ^ 64 := by
  have hx : |tf.toInt - 76800| ≤ 4271104 := abs_tFine_sub_le tf (by decide)
  have hadc := abs_shl_bound (abs_toNat_le adcH) 14
  have hh4 := abs_shl_bound (abs_toInt_le c.h4) 20
  have hh5 := abs_mul_bound (abs_toInt_le c.h5) hx
  have ha1 := abs_sub_bound hadc hh4
  have ha2 := abs_sub_bound ha1 hh5
  have ha3 := abs_add_bound ha2 (show |16384| ≤ 16384 by decide)
  have ha := abs_shr_bound ha3 15
  have hh6 := abs_mul_bound hx (abs_toInt_le c.h6)
  have hh3 := abs_mul_bound hx (abs_toInt_le c.h3)
  have hh3' := abs_add_bound (abs_shr_bound hh3 11) (show |32768| ≤ 32768 by decide)
  have hu := abs_mul_bound (abs_shr_bound hh6 10) hh3'
  have hu' := abs_add_bound (abs_shr_bound hu 10) (show |2097152| ≤ 2097152 by decide)
  have hh2 := abs_mul_bound hu' (abs_toInt_le c.h2)
  have hh2' := abs_add_bound hh2 (show |8192| ≤ 8192 by decide)
  have hb := abs_shr_bound hh2' 14
  have hy := abs_mul_bound ha hb
  have hy15 := abs_shr_bound hy 15
  have hyy := abs_mul_bound hy15 hy15
  have hh1 := abs_mul_bound (abs_shr_bound hyy 7) (abs_toInt_le c.h1)
  have hraw := abs_sub_bound hy (abs_shr_bound hh1 4)
  exact List.forall_iff_forall_mem.mp ⟨abs_lt_of_abs_le (abs_toInt_le tf), abs_lt_of_abs_le (abs_toNat_le adcH),
    abs_lt_of_abs_le (abs_toInt_le c.h1), abs_lt_of_abs_le (abs_toInt_le c.h2), abs_lt_of_abs_le (abs_toInt_le c.h3),
    abs_lt_of_abs_le (abs_toInt_le c.h4), abs_lt_of_abs_le (abs_toInt_le c.h5), abs_lt_of_abs_le (abs_toInt_le c.h6),
    abs_lt_of_abs_le hx, abs_lt_of_abs_le hadc, abs_lt_of_abs_le hh4, abs_lt_of_abs_le ha1, abs_lt_of_abs_le hh5,
    abs_lt_of_abs_le ha2, abs_lt_of_abs_le ha3, abs_lt_of_abs_le ha, abs_lt_of_abs_le hh6,
    abs_lt_of_abs_le (abs_shr_bound hh6 10), abs_lt_of_abs_le hh3, abs_lt_of_abs_le (abs_shr_bound hh3 11),
    abs_lt_of_abs_le hh3', abs_lt_of_abs_le hu, abs_lt_of_abs_le (abs_shr_bound hu 10), abs_lt_of_abs_le hu',
    abs_lt_of_abs_le hh2, abs_lt_of_abs_le hh2', abs_lt_of_abs_le hb, abs_lt_of_abs_le hy, abs_lt_of_abs_le hy15,
    abs_lt_of_abs_le hyy, abs_lt_of_abs_le (abs_shr_bound hyy 7), abs_lt_of_abs_le hh1,
    abs_lt_of_abs_le (abs_shr_bound hh1 4), abs_lt_of_abs_le hraw⟩

/-- Settles O14: the bounds of the steps, and the clamp for the result (R238). -/
theorem humidityDatapathWidths : Obligations.HumidityDatapathWidths := fun tf adcH c =>
  ⟨abs_humSteps_lt tf adcH c, humidityAlwaysClamped _ _ _ _ _ _ _ _⟩

/-! SUPPORT. Loading a result into its register is exact (R262). -/

theorem ofInt_toInt_of_mem {n : Nat} {v : Int} (h : v ∈ Set.Ico (-2 ^ n) (2 ^ n)) :
    (BitVec.ofInt (n + 1) v).toInt = v :=
  BitVec.toInt_ofInt_eq_self (Nat.succ_pos n) h.1 h.2

theorem ofInt_toNat_of_mem {n : Nat} {v : Int} (h : v ∈ Set.Ico 0 (2 ^ n)) : ((BitVec.ofInt n v).toNat : Int) = v := by
  obtain ⟨hlo, hhi⟩ := h
  rw [BitVec.toNat_ofInt, Nat.cast_pow, Nat.cast_ofNat, Int.emod_eq_of_lt hlo hhi, Int.toNat_of_nonneg hlo]

theorem tFineReg_toInt (adcT : BitVec 20) (c : TpCoeffs) : (tFineReg adcT c).toInt = tfineOf adcT c := by
  obtain ⟨hlo, hhi⟩ := tfineOf_mem adcT c
  exact ofInt_toInt_of_mem ⟨by omega, by omega⟩

theorem tOutReg_toInt (tf : BitVec 23) : (tOutReg tf).toInt = temp tf.toInt := by
  have htemp : temp tf.toInt ∈ Set.Icc (-81920) 81920 := temp_mem (toInt_mem_Icc tf)
  obtain ⟨hlo, hhi⟩ := htemp
  exact ofInt_toInt_of_mem ⟨by omega, by omega⟩

theorem presOf_mem {tf : BitVec 23} {adcP : BitVec 20} {c : TpCoeffs} {r : Int} (h : presOf tf adcP c = some r) :
    r ∈ Set.Ico (-2 ^ 127) (2 ^ 127) := by
  obtain ⟨-, hwidth⟩ := pressureDatapathWidths tf adcP c
  obtain ⟨hlo, hhi⟩ := abs_lt.mp (hwidth r h).2
  exact ⟨by omega, by omega⟩

theorem pOutReg_of_some {tf : BitVec 23} {adcP : BitVec 20} {c : TpCoeffs} {r : Int} (h : presOf tf adcP c = some r) :
    pOutReg tf adcP c = (BitVec.ofInt 128 r, false) := by
  simp only [pOutReg, h]

theorem pOutReg_of_none {tf : BitVec 23} {adcP : BitVec 20} {c : TpCoeffs} (h : presOf tf adcP c = none) :
    pOutReg tf adcP c = (0, true) := by
  simp only [pOutReg, h]

theorem hOutReg_toNat (tf : BitVec 23) (adcH : BitVec 16) (c : HumCoeffs) :
    ((hOutReg tf adcH c).toNat : Int) = humOf tf adcH c := by
  obtain ⟨-, hlo, hhi⟩ := humidityDatapathWidths tf adcH c
  exact ofInt_toNat_of_mem ⟨hlo, by omega⟩

/-- Settles O15: each result lies in the range of its register's type. -/
theorem outputRegistersHoldExactResults : Obligations.OutputRegistersHoldExactResults := by
  refine ⟨tFineReg_toInt, tOutReg_toInt, fun tf adcP c r hr => ?_, hOutReg_toNat⟩
  rw [pOutReg_of_some hr]
  exact ⟨ofInt_toInt_of_mem (presOf_mem hr), rfl⟩

end Sys2Proof.Machine

namespace Sys2Proof.Machine

/-! SUPPORT. The C reference of R263 on words that stand for integers: addition, subtraction, multiplication and the
shift up wrap as the integers' own operations do, so only a shift down, a division and a comparison need their operand
to fit its word. -/

/-- The integer is one of a signed word of n bits. -/
abbrev Fits (n : Nat) (v : Int) : Prop := -(2 ^ (n - 1) : Int) ≤ v ∧ v < (2 ^ (n - 1) : Int)

theorem ofInt_sub (n : Nat) (a b : Int) : BitVec.ofInt n (a - b) = BitVec.ofInt n a - BitVec.ofInt n b := by
  rw [sub_eq_add_neg, BitVec.ofInt_add, BitVec.ofInt_neg, BitVec.sub_eq_add_neg]

theorem ofInt_shl (n : Nat) (a : Int) (k : Nat) : BitVec.ofInt n (shl a k) = BitVec.ofInt n a <<< k := by
  have hpow : BitVec.ofInt n ((2 ^ k : Nat) : Int) = BitVec.twoPow n k := by
    rw [BitVec.ofInt_natCast]
    exact BitVec.eq_of_toNat_eq (by simp [← Nat.pow_mod])
  rw [shl, BitVec.ofInt_mul, hpow, BitVec.shiftLeft_eq_mul_twoPow]

theorem ofInt_toInt_of_fits {n : Nat} {v : Int} (hn : 0 < n) (h : Fits n v) : (BitVec.ofInt n v).toInt = v :=
  BitVec.toInt_ofInt_eq_self hn h.1 h.2

theorem ofInt_shr {n : Nat} {a : Int} (hn : 0 < n) (h : Fits n a) (k : Nat) :
    BitVec.ofInt n (shr a k) = (BitVec.ofInt n a).sshiftRight k := by
  rw [← BitVec.ofInt_toInt (x := (BitVec.ofInt n a).sshiftRight k), BitVec.toInt_sshiftRight, ofInt_toInt_of_fits hn h,
    Int.shiftRight_eq_div_pow, shr]

theorem ofInt_tdiv {n : Nat} {a b : Int} (hn : 0 < n) (ha : Fits n a) (hb : Fits n b) :
    BitVec.ofInt n (tdiv a b) = (BitVec.ofInt n a).sdiv (BitVec.ofInt n b) := by
  apply BitVec.eq_of_toInt_eq
  rw [BitVec.toInt_sdiv, ofInt_toInt_of_fits hn ha, ofInt_toInt_of_fits hn hb, BitVec.toInt_ofInt, tdiv]

theorem setWidth_eq_ofInt {m : Nat} (n : Nat) (x : BitVec m) : x.setWidth n = BitVec.ofInt n x.toNat := by
  rw [BitVec.ofInt_natCast, BitVec.ofNat_toNat]

theorem signExtend_eq_ofInt {m : Nat} (n : Nat) (x : BitVec m) : x.signExtend n = BitVec.ofInt n x.toInt := rfl

/-! The temperature -/

theorem refTfine_ofInt {adcT t1 t2 t3 : Int} (h : fitSigned 32 (tfineSteps adcT t1 t2 t3)) :
    refTfine (BitVec.ofInt 32 adcT) (BitVec.ofInt 32 t1) (BitVec.ofInt 32 t2) (BitVec.ofInt 32 t3) =
      BitVec.ofInt 32 (tfine adcT t1 t2 t3) := by
  have hadc : Fits 32 adcT := h _ (by simp [tfineSteps])
  have hprod1 : Fits 32 ((shr adcT 3 - shl t1 1) * t2) := h _ (by simp [tfineSteps])
  have hsquare : Fits 32 ((shr adcT 4 - t1) * (shr adcT 4 - t1)) := h _ (by simp [tfineSteps])
  have hprod2 : Fits 32 (shr ((shr adcT 4 - t1) * (shr adcT 4 - t1)) 12 * t3) := h _ (by simp [tfineSteps])
  simp only [refTfine, tfine, tfineVar1, tfineVar2, BitVec.ofInt_add, BitVec.ofInt_mul, ofInt_sub, ofInt_shl,
    ofInt_shr (by decide) hadc, ofInt_shr (by decide) hprod1, ofInt_shr (by decide) hsquare,
    ofInt_shr (by decide) hprod2]

theorem refTemp_ofInt {tf : Int} (h : fitSigned 32 (tempSteps tf)) :
    refTemp (BitVec.ofInt 32 tf) = BitVec.ofInt 32 (temp tf) := by
  have hsum : Fits 32 (tf * 5 + 128) := h _ (by simp [tempSteps])
  rw [temp, ofInt_shr (by decide) hsum, BitVec.ofInt_add, BitVec.ofInt_mul]
  rfl

/-- Settles O18: the reference's words stand for the integers of R232 and R234, and both results fit s32. -/
theorem temperatureEqualsReferenceInDomain : Obligations.TemperatureEqualsReferenceInDomain := by
  intro adcT c hdomain ref
  obtain ⟨htfine, htemp⟩ := List.forall_mem_append.mp hdomain
  have href : ref = BitVec.ofInt 32 (tfineOf adcT c) := by
    simp only [ref, setWidth_eq_ofInt, signExtend_eq_ofInt]
    exact refTfine_ofInt htfine
  have hfits : Fits 32 (tfineOf adcT c) := htemp _ (by simp [tempSteps, tfineOf])
  have htempFits : Fits 32 (temp (tfineOf adcT c)) := htemp _ (by simp [tempSteps, tfineOf])
  constructor
  · rw [href]
    exact ofInt_toInt_of_fits (by decide) hfits
  · rw [href]
    exact (congrArg BitVec.toInt (refTemp_ofInt htemp)).trans (ofInt_toInt_of_fits (by decide) htempFits)

/-! The pressure -/

theorem ofInt_eq_zero_iff {n : Nat} {v : Int} (hn : 0 < n) (h : Fits n v) : BitVec.ofInt n v = 0#n ↔ v = 0 := by
  rw [← BitVec.toInt_inj, ofInt_toInt_of_fits hn h, BitVec.toInt_zero]

/-- The divisor of the reference, `var1` of `refPres`. -/
def refDivisor (tf p1 p2 p3 : BitVec 64) : BitVec 64 :=
  let v := tf - 128000#64
  ((1#64 <<< 47 + ((v * v * p3).sshiftRight 8 + (v * p2) <<< 12)) * p1).sshiftRight 33

/-- `var2` of `refPres`. -/
def refVar2 (tf p4 p5 p6 : BitVec 64) : BitVec 64 :=
  let v := tf - 128000#64
  v * v * p6 + (v * p5) <<< 17 + p4 <<< 35

/-- The reference from the division on, before its result is cut to 32 bits. -/
def refTail (adcP var2 divisor p7 p8 p9 : BitVec 64) : BitVec 64 :=
  let q := (((1048576#64 - adcP) <<< 31 - var2) * 3125#64).sdiv divisor
  (q + (p9 * q.sshiftRight 13 * q.sshiftRight 13).sshiftRight 25 + (p8 * q).sshiftRight 19).sshiftRight 8 + p7 <<< 4

theorem refPres_eq (tf adcP p1 p2 p3 p4 p5 p6 p7 p8 p9 : BitVec 64) :
    refPres tf adcP p1 p2 p3 p4 p5 p6 p7 p8 p9 =
      if refDivisor tf p1 p2 p3 = 0#64 then none
      else some ((refTail adcP (refVar2 tf p4 p5 p6) (refDivisor tf p1 p2 p3) p7 p8 p9).setWidth 32) := rfl

theorem refDivisor_ofInt {tf p1 p2 p3 : Int} (h : fitSigned 64 (presDivisorSteps tf p1 p2 p3)) :
    refDivisor (BitVec.ofInt 64 tf) (BitVec.ofInt 64 p1) (BitVec.ofInt 64 p2) (BitVec.ofInt 64 p3) =
      BitVec.ofInt 64 (presDivisor tf p1 p2 p3) := by
  have hcube : Fits 64 ((tf - 128000) * (tf - 128000) * p3) := h _ (by simp [presDivisorSteps])
  have hproduct : Fits 64 ((shl 1 47 + presVar1 tf p2 p3) * p1) := h _ (by simp [presDivisorSteps])
  rw [presDivisor, ofInt_shr (by decide) hproduct]
  simp only [refDivisor, presVar1, BitVec.ofInt_add, BitVec.ofInt_mul, ofInt_sub, ofInt_shl,
    ofInt_shr (by decide) hcube]
  rfl

theorem refVar2_ofInt (tf p4 p5 p6 : Int) :
    refVar2 (BitVec.ofInt 64 tf) (BitVec.ofInt 64 p4) (BitVec.ofInt 64 p5) (BitVec.ofInt 64 p6) =
      BitVec.ofInt 64 (presVar2 tf p4 p5 p6) := by
  simp only [refVar2, presVar2, BitVec.ofInt_add, BitVec.ofInt_mul, ofInt_sub, ofInt_shl]
  rfl

theorem refTail_ofInt {adcP var2 divisor p7 p8 p9 : Int} (hdivisor : Fits 64 divisor)
    (h : fitSigned 64 (presTailSteps adcP var2 divisor p7 p8 p9)) :
    refTail (BitVec.ofInt 64 adcP) (BitVec.ofInt 64 var2) (BitVec.ofInt 64 divisor) (BitVec.ofInt 64 p7)
        (BitVec.ofInt 64 p8) (BitVec.ofInt 64 p9) =
      BitVec.ofInt 64 (presCorrected (presQuotient adcP var2 divisor) p7 p8 p9) := by
  have hdividend : Fits 64 ((shl (1048576 - adcP) 31 - var2) * 3125) := h _ (by simp [presTailSteps])
  have hp : Fits 64 (presQuotient adcP var2 divisor) := h _ (by simp [presTailSteps])
  have hp99 : Fits 64 (p9 * shr (presQuotient adcP var2 divisor) 13 * shr (presQuotient adcP var2 divisor) 13) :=
    h _ (by simp [presTailSteps])
  have hp8 : Fits 64 (p8 * presQuotient adcP var2 divisor) := h _ (by simp [presTailSteps])
  have hsum : Fits 64 (presQuotient adcP var2 divisor +
      shr (p9 * shr (presQuotient adcP var2 divisor) 13 * shr (presQuotient adcP var2 divisor) 13) 25 +
      shr (p8 * presQuotient adcP var2 divisor) 19) := h _ (by simp [presTailSteps])
  have hquotient : BitVec.ofInt 64 (presQuotient adcP var2 divisor) =
      (((1048576#64 - BitVec.ofInt 64 adcP) <<< 31 - BitVec.ofInt 64 var2) * 3125#64).sdiv
        (BitVec.ofInt 64 divisor) := by
    rw [presQuotient, ofInt_tdiv (by decide) hdividend hdivisor, BitVec.ofInt_mul, ofInt_sub, ofInt_shl, ofInt_sub]
    rfl
  rw [refTail, ← hquotient]
  simp only [presCorrected, BitVec.ofInt_add, BitVec.ofInt_mul, ofInt_shl, ofInt_shr (by decide) hp,
    ofInt_shr (by decide) hp99, ofInt_shr (by decide) hp8, ofInt_shr (by decide) hsum]

/-- A pressure below 2^32 is not changed by the cut to 32 bits. -/
theorem setWidth_ofInt_toNat {r : Int} (hlo : 0 ≤ r) (hhi : r < 2 ^ 32) :
    (((BitVec.ofInt 64 r).setWidth 32).toNat : Int) = r := by
  have hword : ((BitVec.ofInt 64 r).toNat : Int) = r := ofInt_toNat_of_mem ⟨hlo, by omega⟩
  rw [BitVec.toNat_setWidth, Nat.mod_eq_of_lt (by omega), hword]

/-- Settles O19: the reference's divisor stands for that of R236 and is zero with it; past the test its tail stands for
the pressure, which fits 32 bits. -/
theorem pressureEqualsReferenceInDomain : Obligations.PressureEqualsReferenceInDomain := by
  rintro tf adcP c ⟨hsteps, htail⟩
  obtain ⟨hdivisorSteps, -⟩ := List.forall_mem_append.mp hsteps
  have hdivisor := hdivisorSteps (presDivisor tf.toInt c.p1.toNat c.p2.toInt c.p3.toInt) (by simp [presDivisorSteps])
  simp only [setWidth_eq_ofInt, signExtend_eq_ofInt]
  rw [refPres_eq, refDivisor_ofInt hdivisorSteps, refVar2_ofInt]
  simp only [ofInt_eq_zero_iff (by decide : 0 < 64) hdivisor]
  rw [presOf, pres]
  split
  case isTrue => rfl
  case isFalse hzero =>
    obtain ⟨htailSteps, hlo, hhi⟩ := htail _ (if_neg hzero)
    rw [refTail_ofInt hdivisor htailSteps, Option.map_some, setWidth_ofInt_toNat hlo hhi]

/-! The humidity -/

theorem slt_ofInt {n : Nat} {a b : Int} (hn : 0 < n) (ha : Fits n a) (hb : Fits n b) :
    (BitVec.ofInt n a).slt (BitVec.ofInt n b) = true ↔ a < b := by
  rw [BitVec.slt_iff_toInt_lt, ofInt_toInt_of_fits hn ha, ofInt_toInt_of_fits hn hb]

/-- The unclamped humidity of the reference, `z` of `refHum`. -/
def refHumRaw (tf adcH h1 h2 h3 h4 h5 h6 : BitVec 32) : BitVec 32 :=
  let x := tf - 76800#32
  let a := (adcH <<< 14 - h4 <<< 20 - h5 * x + 16384#32).sshiftRight 15
  let u := (x * h6).sshiftRight 10 * ((x * h3).sshiftRight 11 + 32768#32)
  let b := ((u.sshiftRight 10 + 2097152#32) * h2 + 8192#32).sshiftRight 14
  let y := a * b
  y - ((y.sshiftRight 15 * y.sshiftRight 15).sshiftRight 7 * h1).sshiftRight 4

/-- The clamp of the reference on a 32-bit word. -/
def refClamp (z : BitVec 32) : BitVec 32 :=
  let lo := if z.slt 0#32 then 0#32 else z
  if (419430400#32).slt lo then 419430400#32 else lo

theorem refHum_eq (tf adcH h1 h2 h3 h4 h5 h6 : BitVec 32) :
    refHum tf adcH h1 h2 h3 h4 h5 h6 = (refClamp (refHumRaw tf adcH h1 h2 h3 h4 h5 h6)).sshiftRight 12 := rfl

theorem refHumRaw_ofInt {tf adcH h1 h2 h3 h4 h5 h6 : Int} (h : InHumidityDomain tf adcH h1 h2 h3 h4 h5 h6) :
    refHumRaw (BitVec.ofInt 32 tf) (BitVec.ofInt 32 adcH) (BitVec.ofInt 32 h1) (BitVec.ofInt 32 h2)
        (BitVec.ofInt 32 h3) (BitVec.ofInt 32 h4) (BitVec.ofInt 32 h5) (BitVec.ofInt 32 h6) =
      BitVec.ofInt 32 (humRaw tf adcH h1 h2 h3 h4 h5 h6) := by
  have ha : Fits 32 (shl adcH 14 - shl h4 20 - h5 * (tf - 76800) + 16384) := h _ (by simp [humSteps])
  have hh6 : Fits 32 ((tf - 76800) * h6) := h _ (by simp [humSteps])
  have hh3 : Fits 32 ((tf - 76800) * h3) := h _ (by simp [humSteps])
  have hu : Fits 32 (humU (tf - 76800) h3 h6) := h _ (by simp [humSteps])
  have hb : Fits 32 ((shr (humU (tf - 76800) h3 h6) 10 + 2097152) * h2 + 8192) := h _ (by simp [humSteps])
  have hy : Fits 32 (humA (tf - 76800) adcH h4 h5 * humB (tf - 76800) h2 h3 h6) := h _ (by simp [humSteps])
  have hyy : Fits 32 (shr (humA (tf - 76800) adcH h4 h5 * humB (tf - 76800) h2 h3 h6) 15 *
      shr (humA (tf - 76800) adcH h4 h5 * humB (tf - 76800) h2 h3 h6) 15) := h _ (by simp [humSteps])
  have hh1 : Fits 32 (shr (shr (humA (tf - 76800) adcH h4 h5 * humB (tf - 76800) h2 h3 h6) 15 *
      shr (humA (tf - 76800) adcH h4 h5 * humB (tf - 76800) h2 h3 h6) 15) 7 * h1) := h _ (by simp [humSteps])
  have hx : BitVec.ofInt 32 (tf - 76800) = BitVec.ofInt 32 tf - 76800#32 := ofInt_sub 32 tf 76800
  have hwordA : BitVec.ofInt 32 (humA (tf - 76800) adcH h4 h5) = (BitVec.ofInt 32 adcH <<< 14 -
      BitVec.ofInt 32 h4 <<< 20 - BitVec.ofInt 32 h5 * (BitVec.ofInt 32 tf - 76800#32) + 16384#32).sshiftRight 15 := by
    rw [humA, ofInt_shr (by decide) ha]
    simp only [BitVec.ofInt_add, BitVec.ofInt_mul, ofInt_sub, ofInt_shl]
    rfl
  have hwordU : BitVec.ofInt 32 (humU (tf - 76800) h3 h6) =
      ((BitVec.ofInt 32 tf - 76800#32) * BitVec.ofInt 32 h6).sshiftRight 10 *
        (((BitVec.ofInt 32 tf - 76800#32) * BitVec.ofInt 32 h3).sshiftRight 11 + 32768#32) := by
    rw [humU, BitVec.ofInt_mul, BitVec.ofInt_add, ofInt_shr (by decide) hh6, ofInt_shr (by decide) hh3,
      BitVec.ofInt_mul, BitVec.ofInt_mul, hx]
    rfl
  have hwordB : BitVec.ofInt 32 (humB (tf - 76800) h2 h3 h6) =
      (((BitVec.ofInt 32 (humU (tf - 76800) h3 h6)).sshiftRight 10 + 2097152#32) * BitVec.ofInt 32 h2 +
        8192#32).sshiftRight 14 := by
    rw [humB, ofInt_shr (by decide) hb, BitVec.ofInt_add, BitVec.ofInt_mul, BitVec.ofInt_add,
      ofInt_shr (by decide) hu]
    rfl
  simp only [refHumRaw, humRaw, humCorrected, BitVec.ofInt_mul, ofInt_sub, ofInt_shr (by decide) hh1,
    ofInt_shr (by decide) hyy, ofInt_shr (by decide) hy, hwordA, hwordB, hwordU]

theorem refClamp_ofInt {v : Int} (h : Fits 32 v) :
    refClamp (BitVec.ofInt 32 v) = BitVec.ofInt 32 (clamp v 0 419430400) := by
  have hzero : Fits 32 0 := by decide
  have hmax : Fits 32 419430400 := by decide
  have hzeroWord : 0#32 = BitVec.ofInt 32 0 := by decide
  have hmaxWord : 419430400#32 = BitVec.ofInt 32 419430400 := by decide
  have hn : 0 < 32 := by decide
  rw [refClamp, clamp, hzeroWord, hmaxWord]
  simp only [slt_ofInt hn h hzero]
  by_cases hv : v < 0
  · simp only [hv, if_true, slt_ofInt hn hmax hzero]
    rfl
  · simp only [hv, if_false, slt_ofInt hn hmax h]
    exact (apply_ite (BitVec.ofInt 32) (v > 419430400) 419430400 v).symm

/-- Settles O20: the reference's words stand for the integers of R237 up to the clamp, which compares them as such. -/
theorem humidityEqualsReferenceInDomain : Obligations.HumidityEqualsReferenceInDomain := by
  intro tf adcH c hdomain
  have hraw := hdomain (humRaw tf.toInt adcH.toNat c.h1.toInt c.h2.toInt c.h3.toInt c.h4.toInt c.h5.toInt c.h6.toInt)
    (by simp [humSteps])
  obtain ⟨hlo, hhi⟩ := clamp_mem_Icc (humRaw tf.toInt adcH.toNat c.h1.toInt c.h2.toInt c.h3.toInt c.h4.toInt c.h5.toInt
    c.h6.toInt) (show (0 : Int) ≤ 419430400 by decide)
  simp only [setWidth_eq_ofInt, signExtend_eq_ofInt]
  rw [refHum_eq, refHumRaw_ofInt hdomain, refClamp_ofInt hraw, BitVec.toInt_sshiftRight,
    ofInt_toInt_of_fits (by decide) ⟨by omega, by omega⟩, Int.shiftRight_eq_div_pow]
  rfl

end Sys2Proof.Machine

namespace Sys2Proof.Machine

/-! SUPPORT. The opcode map read backwards: an instruction's opcode is the only one that gives it (R92). -/

theorem decodeOp_eq_instr {op : Nat} {i : Instr} (h : decodeOp op = .instr i) : op = (opcode i).toNat := by
  rcases Nat.lt_or_ge 0x06 op with hop | hop
  · cases (decodeOp_eq_reservedOpcode hop).symm.trans h
  · interval_cases op <;> cases h <;> rfl

/-- A command word is its two fields (R90). -/
theorem rsvField_append_opField (w : CmdWord) : rsvField w ++ opField w = w := by
  rw [rsvField, opField, BitVec.extractLsb'_append_extractLsb'_eq_extractLsb' (by decide)]
  exact BitVec.extractLsb'_eq_self

theorem decode_encode (i : Instr) : decode (encode i) = .instr i := by
  cases i <;> rfl

theorem decode_eq_instr_iff (w : CmdWord) (i : Instr) : decode w = .instr i ↔ w = encode i := by
  constructor
  case mpr =>
    rintro rfl
    exact decode_encode i
  case mp =>
    intro h
    rw [decode] at h
    split at h
    case isTrue hrsv =>
      have hop : opField w = opcode i := BitVec.eq_of_toNat_eq (decodeOp_eq_instr h)
      rw [encode, ← hrsv, ← hop, rsvField_append_opField]
    case isFalse => cases h

/-- Settles O2: the decoder's row, the mask's and the encoder's word are one and the same. -/
theorem everyWordSelectsAtMostItsRow : Obligations.EveryWordSelectsAtMostItsRow := by
  intro w i
  have hmask : w &&& 0xFFFFFFFF#32 = w := BitVec.and_allOnes
  refine ⟨?_, decode_eq_instr_iff w i⟩
  rw [hmask, decode_eq_instr_iff]
  cases i <;> rfl

/-- Settles O1: the seven words are the encoder's. -/
theorem opcodeMapWordsDecode : Obligations.OpcodeMapWordsDecode :=
  ⟨decode_encode .nop, decode_encode .init, decode_encode .setInterval, decode_encode .refresh,
    decode_encode .readTemp, decode_encode .readPres, decode_encode .readHum⟩

/-! SUPPORT. H4 and H5 as numbers, and back into their bytes (R163 to R167). -/

theorem append_nibble_toInt (e : Byte) (x : BitVec 4) : (e ++ x).toInt = 16 * e.toInt + x.toNat := by
  rw [BitVec.toInt_append]
  rfl

theorem decodeH4_toInt (e3 e4 : Byte) : (decodeH4 e3 e4).toInt = 16 * e3.toInt + (e4.toNat % 16 : Nat) := by
  rw [(h4H5AreConcatenations e3 e4 0).1, append_nibble_toInt, BitVec.extractLsb'_toNat]
  rfl

theorem decodeH5_toInt (e5 e4 : Byte) : (decodeH5 e5 e4).toInt = 16 * e5.toInt + (e4.toNat / 16 : Nat) := by
  have hnibble : e4.toNat / 16 < 16 := by omega
  rw [(h4H5AreConcatenations 0 e4 e5).2, append_nibble_toInt, BitVec.extractLsb'_toNat, Nat.shiftRight_eq_div_pow,
    Nat.mod_eq_of_lt hnibble]

/-- Settles O8: H1, H3 and H6 are bytes, H2 is le16, and H4 and H5 are a byte over a nibble. -/
theorem humidityCoefficientValues : Obligations.HumidityCoefficientValues := fun _ _ _ =>
  ⟨rfl, le16_toInt _ _, rfl, decodeH4_toInt _ _, decodeH5_toInt _ _, rfl⟩

/-- Shifting a 12-bit value down by a nibble leaves its upper byte. -/
theorem upperByte_eq (x : BitVec 12) : (x.sshiftRight 4).setWidth 8 = x.extractLsb' 4 8 := by
  apply BitVec.eq_of_getLsbD_eq
  intro i hi
  have hin : 4 + i < 12 := by omega
  simp only [BitVec.getLsbD_setWidth, BitVec.getLsbD_sshiftRight, BitVec.getLsbD_extractLsb', hi, hin, decide_true,
    Bool.true_and, if_true, show ¬12 ≤ i by omega, decide_false, Bool.not_false]

theorem lowNibble_eq (x : BitVec 12) : (x &&& 0x0F).setWidth 8 = (x.extractLsb' 0 4).setWidth 8 := by
  have hmask : x.toNat &&& 15 = x.toNat % 16 := Nat.and_two_pow_sub_one_eq_mod x.toNat 4
  apply BitVec.eq_of_toNat_eq
  simp only [BitVec.toNat_setWidth, BitVec.toNat_and, BitVec.extractLsb'_toNat, BitVec.reduceToNat, hmask,
    Nat.shiftRight_zero, Nat.reducePow]

theorem nibbles_append (hi lo : BitVec 4) : (hi.setWidth 8 <<< 4) ||| lo.setWidth 8 = hi ++ lo := by
  rw [BitVec.append_def, BitVec.shiftLeftZeroExtend_eq, BitVec.setWidth'_eq]

/-- pack_h45 cuts both values above their low nibbles and joins the nibbles in the shared byte (R167). -/
theorem packH45_eq (h4 h5 : BitVec 12) : packH45 h4 h5 =
    (h4.extractLsb' 4 8, h5.extractLsb' 0 4 ++ h4.extractLsb' 0 4, h5.extractLsb' 4 8) := by
  rw [packH45, upperByte_eq, upperByte_eq, lowNibble_eq, lowNibble_eq, nibbles_append]

/-- A vector is its upper part over its lower part. -/
theorem upper_append_lower (m n : Nat) (x : BitVec (m + n)) : x.extractLsb' n m ++ x.extractLsb' 0 n = x := by
  rw [BitVec.extractLsb'_append_extractLsb'_eq_extractLsb' (Nat.zero_add n).symm]
  exact BitVec.extractLsb'_eq_self

/-- Settles O10: both directions cut concatenations where they were joined. -/
theorem packH45RoundTrips : Obligations.PackH45RoundTrips := by
  constructor
  · intro e3 e4 e5
    obtain ⟨h4, h5⟩ := h4H5AreConcatenations e3 e4 e5
    rw [packH45_eq, h4, h5, BitVec.extractLsb'_append_eq_left, BitVec.extractLsb'_append_eq_left,
      BitVec.extractLsb'_append_eq_right, BitVec.extractLsb'_append_eq_right, upper_append_lower 4 4]
  · intro h4 h5
    obtain ⟨hd4, -⟩ := h4H5AreConcatenations (packH45 h4 h5).1 (packH45 h4 h5).2.1 0
    obtain ⟨-, hd5⟩ := h4H5AreConcatenations 0 (packH45 h4 h5).2.1 (packH45 h4 h5).2.2
    rw [hd4, hd5, packH45_eq, BitVec.extractLsb'_append_eq_right, BitVec.extractLsb'_append_eq_left]
    exact ⟨upper_append_lower 8 4 h4, upper_append_lower 8 4 h5⟩

end Sys2Proof.Machine

namespace Sys2Proof.Machine

/-! SUPPORT. What a command that refreshes leaves alone after ensure_fresh (R195, R255). -/

/-- INTERVAL, the Calibration Store, the sample with its timestamp, and the agents are the same in t as in s. -/
structure SameSample (s t : State) : Prop where
  interval : t.interval = s.interval
  store : t.store = s.store
  sampleValid : t.cache.sampleValid = s.cache.sampleValid
  adcP : t.cache.adcP = s.cache.adcP
  adcT : t.cache.adcT = s.cache.adcT
  adcH : t.cache.adcH = s.cache.adcH
  lastTs : t.cache.lastTs = s.cache.lastTs
  agents : t.agents = s.agents

theorem SameSample.refl (s : State) : SameSample s s := ⟨rfl, rfl, rfl, rfl, rfl, rfl, rfl, rfl⟩

theorem raise_sameSample (c : Completion) (s : State) : SameSample s (raise c s) :=
  ⟨rfl, rfl, rfl, rfl, rfl, rfl, rfl, rfl⟩

theorem withTFine_sameSample (s : State) : SameSample s (withTFine s) := by
  rw [withTFine]
  split
  · exact .refl s
  · exact ⟨rfl, rfl, rfl, rfl, rfl, rfl, rfl, rfl⟩

theorem withOutput_sameSample (r : Reader) (s : State) : SameSample s (withOutput r s) := by
  obtain ⟨h1, h2, h3, h4, h5, h6, h7, h8⟩ := withTFine_sameSample s
  apply withOutput_rule
  case valid => exact fun _ => .refl s
  case temp => exact fun _ => ⟨h1, h2, h3, h4, h5, h6, h7, h8⟩
  case pres => exact fun _ => ⟨h1, h2, h3, h4, h5, h6, h7, h8⟩
  case hum => exact fun _ => ⟨h1, h2, h3, h4, h5, h6, h7, h8⟩

theorem answered_interval (r : Reader) (b : Bool) (s : State) : (answered r b s).interval = s.interval := by
  obtain ⟨c, v, h⟩ := exists_answered_eq r b s
  rw [h, complete_interval]

theorem answered_store (r : Reader) (b : Bool) (s : State) : (answered r b s).store = s.store := by
  obtain ⟨c, v, h⟩ := exists_answered_eq r b s
  rw [h, complete_store]

theorem answered_cache (r : Reader) (b : Bool) (s : State) : (answered r b s).cache = s.cache := by
  obtain ⟨c, v, h⟩ := exists_answered_eq r b s
  rw [h, complete_cache]

theorem answered_agents (r : Reader) (b : Bool) (s : State) : (answered r b s).agents = s.agents := by
  obtain ⟨c, v, h⟩ := exists_answered_eq r b s
  rw [h, complete_agents]

/-- The whole of a command after ensure_fresh leaves the sample alone. -/
theorem answered_withOutput_sameSample (r : Reader) (b : Bool) (s : State) :
    SameSample s (answered r b (withOutput r s)) := by
  obtain ⟨h1, h2, h3, h4, h5, h6, h7, h8⟩ := withOutput_sameSample r s
  have hcache := answered_cache r b (withOutput r s)
  exact ⟨(answered_interval _ _ _).trans h1, (answered_store _ _ _).trans h2, by rw [hcache, h3], by rw [hcache, h4],
    by rw [hcache, h5], by rw [hcache, h6], by rw [hcache, h7], (answered_agents _ _ _).trans h8⟩

theorem ensureFresh_of_fresh {r : Reader} {k : Bool → State → Out} {s : State} (h : SampleFresh s.port.arg s) :
    ensureFresh r k s = k false s :=
  if_pos ((fresh_eq_true_iff _ s).mpr h)

theorem exec_sameSample_of_fresh {i : Instr} {r : Reader} {s : State} (hi : i.reader? = some r)
    (hfresh : SampleFresh s.port.arg s) : Ensures (SameSample s) (exec i s) := by
  apply exec_reader_rule hi
  case notReady => exact fun _ => ensures_next (raise_sameSample _ s)
  case unsupported => exact fun _ _ _ => ensures_next (raise_sameSample _ s)
  case enabled =>
    intro _
    rw [ensureFresh_of_fresh hfresh, finish_eq]
    exact ensures_next (answered_withOutput_sameSample r false s)

/-- Settles O28: a check stops the command, or it goes on with the sample it found. -/
theorem freshSampleCausesNoBusActivity : Obligations.FreshSampleCausesNoBusActivity := by
  intro i r s t hi hfresh ht
  obtain ⟨hinterval, -, hvalid, hp, htemp, hh, hts, hagents⟩ := exec_sameSample_of_fresh hi hfresh t ht
  exact ⟨hagents, hvalid, hp, htemp, hh, hts, hinterval⟩

/-- Settles O39: the check of STATE comes first. -/
theorem readersNotReadyOutsideReady : Obligations.ReadersNotReadyOutsideReady :=
  fun _ _ _ hi h => exec_reader_of_not_ready hi h

/-! SUPPORT. A conversion from its start to its end, and the commands seen from the sample ensure_fresh obtains. -/

/-- The same state without an open request. -/
def withoutRequest (s : State) : State := { s with port := { s.port with pending := none } }

theorem withTFine_withoutRequest (s : State) : withTFine (withoutRequest s) = withoutRequest (withTFine s) :=
  (apply_ite withoutRequest _ s (loadTFine s)).symm

theorem withOutput_withoutRequest (r : Reader) (s : State) :
    withOutput r (withoutRequest s) = withoutRequest (withOutput r s) := by
  cases r with
  | refresh => rfl
  | temp =>
    rw [withOutput, withOutput, withTFine_withoutRequest]
    exact (apply_ite withoutRequest (s.cache.tValid = true) s (loadTOut (withTFine s).cache.tFine (withTFine s))).symm
  | pres =>
    rw [withOutput, withOutput, withTFine_withoutRequest]
    exact (apply_ite withoutRequest (s.cache.pValid = true) s (loadPOut (withTFine s).cache.tFine (withTFine s))).symm
  | hum =>
    rw [withOutput, withOutput, withTFine_withoutRequest]
    exact (apply_ite withoutRequest (s.cache.hValid = true) s (loadHOut (withTFine s).cache.tFine (withTFine s))).symm

theorem answered_withoutRequest (r : Reader) (b : Bool) (s : State) :
    answered r b (withoutRequest s) = answered r b s := by
  cases r <;> rfl

/-- A completion closes the open request, so the command after ensure_fresh does not look at it. -/
theorem finish_withoutRequest (r : Reader) (b : Bool) (s : State) :
    finish r b (withoutRequest s) = finish r b s := by
  rw [finish_eq, finish_eq, withOutput_withoutRequest, answered_withoutRequest]

/-- What the conversion sequence can come to (R193, R196, R200), seen from its start. -/
theorem convert_outcome_rule {Q : Out → Prop} {r : Reader} {k : Bool → State → Out} {s : State}
    (waits : ∀ p u, Q (.next (stall p u)))
    (controlFails : ∀ rest, Q (.next (endedWith .communicationError rest [controlEvent false] s)))
    (burstFails : ∀ rest, Q (.next (endedWith .communicationError rest
      [controlEvent true, settleEvent, readEvent 0xF7 (burstLength s.port.variant) none] s)))
    (obtains : ∀ b rest, s.agents.bus = .ok :: .bytes b :: rest → b.length = burstLength s.port.variant →
      Q (k true (withoutRequest (afterConversion b rest s))))
    (wrong : Q (.refused .notAnAnswer)) : Q (convert r k s) := by
  apply convert_rule
  case waits => exact fun _ => waits _ _
  case fails => exact fun rest _ => controlFails rest
  case wrong => exact wrong
  case answers =>
    intro rest hbus
    apply readBurst_rule
    case waits => exact fun _ => waits _ _
    case fails =>
      intro rest' _
      have hended := burstFails rest'
      simpa [raise, record, takeAnswer, endedWith, Port.completed] using hended
    case answers =>
      intro b rest' hbus' hlength
      have hobtained := obtains b rest' (by rw [hbus]; exact congrArg _ hbus') hlength
      simpa [loadSample, record, takeAnswer, withoutRequest, afterConversion, conversionEvents] using hobtained
    case wrong => exact wrong

theorem readBurst_answers {r : Reader} {k : Bool → State → Out} {s : State} {b : List Byte} {rest : List BusAnswer}
    (hbus : s.agents.bus = .bytes b :: rest) (hlength : b.length = burstLength s.port.variant) :
    readBurst r k s = k true (loadSample s.port.arg b
      (underway rest [readEvent 0xF7 (burstLength s.port.variant) (some b)] s)) := by
  rw [readBurst, memRead_answers hbus hlength]
  rfl

theorem convert_of_obtained {r : Reader} {k : Bool → State → Out} {s : State} {b : List Byte} {rest : List BusAnswer}
    (hbus : s.agents.bus = .ok :: .bytes b :: rest) (hlength : b.length = burstLength s.port.variant) :
    convert r k s = k true (withoutRequest (afterConversion b rest s)) := by
  rw [convert_answers hbus,
    readBurst_answers (s := underway (.bytes b :: rest) [controlEvent true, settleEvent] s) rfl hlength,
    underway_underway]
  rfl

/-- A command whose checks pass goes on from the sample that ensure_fresh obtains (R193). -/
theorem exec_of_obtained {i : Instr} {r : Reader} {s u : State} (hi : i.reader? = some r) (hr : r.Enabled s)
    (h : SampleObtained s u) : ∃ b, exec i s = .next (answered r b (withOutput r u)) := by
  rw [exec_reader_of_ready hi hr.ready hr.tph]
  rcases h with ⟨hfresh, rfl⟩ | ⟨hstale, b, rest, hbus, hlength, rfl⟩
  · exact ⟨false, by rw [ensureFresh_of_fresh hfresh, finish_eq]⟩
  · exact ⟨true, by rw [ensureFresh_of_stale hstale, convert_of_obtained hbus hlength, finish_withoutRequest,
      finish_eq]⟩

/-- The command of the reader r in s has completed in t, from the sample that its ensure_fresh obtained. -/
def AnsweredIn (r : Reader) (s t : State) : Prop :=
  r.Enabled s ∧ ∃ u b, SampleObtained s u ∧ t = answered r b (withOutput r u)

/-- Conversely, a command that comes to its end without an error has obtained a sample and answered from it. -/
theorem exec_answeredIn {i : Instr} {r : Reader} {s : State} (hi : i.reader? = some r) :
    Ensures (fun t => t.port.busy = false → t.port.completion.isError = false → AnsweredIn r s t) (exec i s) := by
  apply exec_reader_rule hi
  case notReady => exact fun _ => ensures_next nofun
  case unsupported => exact fun _ _ _ => ensures_next nofun
  case enabled =>
    intro hr
    by_cases hfresh : SampleFresh s.port.arg s
    case pos =>
      rw [ensureFresh_of_fresh hfresh, finish_eq]
      exact ensures_next fun _ _ => ⟨hr, s, false, .inl ⟨hfresh, rfl⟩, rfl⟩
    case neg =>
      rw [ensureFresh_of_stale hfresh]
      apply convert_outcome_rule
      case waits => exact fun _ _ => ensures_next nofun
      case controlFails => exact fun _ => ensures_next nofun
      case burstFails => exact fun _ => ensures_next nofun
      case obtains =>
        intro b rest hbus hlength
        rw [finish_withoutRequest, finish_eq]
        exact ensures_next fun _ _ => ⟨hr, _, true, .inr ⟨hfresh, b, rest, hbus, hlength, rfl⟩, rfl⟩
      case wrong => exact ensures_refused _ _

theorem Reader.enabled_of_ne_hum {r : Reader} {s : State} (hr : r ≠ .hum) (hready : s.port.state = .ready) :
    r.Enabled s :=
  ⟨hready, fun h => absurd h hr⟩

theorem SampleObtained.frame {s u : State} (h : SampleObtained s u) :
    u.port = s.port ∧ u.interval = s.interval ∧ u.store = s.store := by
  rcases h with ⟨-, rfl⟩ | ⟨-, b, rest, -, -, rfl⟩
  · exact ⟨rfl, rfl, rfl⟩
  · exact ⟨rfl, rfl, rfl⟩

/-- Settles O29: REFRESH answers from the sample it found, or from the one the conversion loads. -/
theorem refreshReusesOrLoadsTheSample : Obligations.RefreshReusesOrLoadsTheSample := by
  intro s hready
  have hexec : exec .refresh s = ensureFresh .refresh (finish .refresh) s := exec_reader_of_ready rfl hready nofun
  rw [hexec]
  constructor
  · intro hfresh
    rw [ensureFresh_of_fresh hfresh]
    rfl
  · intro b rest hstale hbus hlength
    rw [ensureFresh_of_stale hstale, convert_of_obtained hbus hlength]
    rfl

/-- Settles O31: the command that converted left LAST_TS at its own ARG, so the next one finds a fresh sample. -/
theorem noSecondConversionWithinInterval : Obligations.NoSecondConversionWithinInterval := by
  intro i j r q s t v arg hi hj ht hidle hcode hconverted hnow hage hv
  obtain ⟨-, u, b, hu, rfl⟩ := exec_answeredIn hi t ht hidle hcode
  obtain ⟨-, -, hvalid, -, -, -, hts, hagents⟩ := answered_withOutput_sameSample r b u
  rcases hu with ⟨-, rfl⟩ | ⟨-, burst, rest, -, -, rfl⟩
  case inl => exact absurd (congrArg Agents.history hagents) hconverted
  case inr =>
    have hlast : (answered r b (withOutput r (afterConversion burst rest s))).cache.lastTs = s.port.arg := hts
    have hfresh : SampleFresh arg (answered r b (withOutput r (afterConversion burst rest s))) :=
      ⟨hvalid, by rw [hlast]; omega⟩
    exact (exec_sameSample_of_fresh (s := latched arg (encode j) _) hj hfresh v hv).agents

/-- Settles O32: the ways a conversion comes to its end, with the events of each. -/
theorem staleCommandConvertsExactlyOnce : Obligations.StaleCommandConvertsExactlyOnce := by
  intro i r s t hi hready htph hstale ht hidle
  rw [exec_reader_of_ready hi hready htph, ensureFresh_of_stale hstale] at ht
  have hhistory : Ensures (fun t => t.port.busy = false →
      t.agents.history = s.agents.history ++ [controlEvent false] ∨
        ∃ answer, t.agents.history = s.agents.history ++
          [controlEvent true, settleEvent, readEvent 0xF7 (burstLength s.port.variant) answer])
      (convert r (finish r) s) := by
    apply convert_outcome_rule
    case waits => exact fun _ _ => ensures_next nofun
    case controlFails => exact fun _ => ensures_next fun _ => .inl rfl
    case burstFails => exact fun _ => ensures_next fun _ => .inr ⟨none, rfl⟩
    case obtains =>
      intro b rest _ _
      rw [finish_withoutRequest, finish_eq]
      have hagents := (answered_withOutput_sameSample r true (afterConversion b rest s)).agents
      exact ensures_next fun _ => .inr ⟨some b, congrArg Agents.history hagents⟩
    case wrong => exact ensures_refused _ _
  exact hhistory t ht hidle

/-- Settles O33: the staleness test at its corners; without an answer a stale REFRESH waits at the control write. -/
theorem stalenessCorners : Obligations.StalenessCorners := by
  intro s hready hbus reuses converts
  have hexec : exec .refresh s = ensureFresh .refresh (finish .refresh) s := exec_reader_of_ready rfl hready nofun
  have hreuses : SampleFresh s.port.arg s → reuses := (refreshReusesOrLoadsTheSample s hready).1
  have hconverts : ¬SampleFresh s.port.arg s → converts := fun hstale =>
    (hexec.trans (ensureFresh_of_stale hstale)).trans (memWriteControl_waits hbus)
  refine ⟨fun hempty => hconverts fun hfresh => ?_, fun hvalid hback => hreuses ⟨hvalid, by omega⟩,
    fun hvalid hexact => hreuses ⟨hvalid, by omega⟩, fun hvalid hpast => hconverts fun hfresh => ?_,
    fun hvalid hmax => hreuses ⟨hvalid, by omega⟩⟩
  · simp [hfresh.1] at hempty
  · have hage := hfresh.2
    omega

/-! SUPPORT. The outputs (R240, R244, R250): each is computed from the one fine temperature of the sample. -/

/-- T_FINE is kept where it is valid and else computed from the sample (R233). -/
theorem exists_withTFine_eq (s : State) : ∃ tf,
    withTFine s = { s with cache := { s.cache with tFine := tf, tfineValid := true } } ∧
      (s.cache.tfineValid = true → tf = s.cache.tFine) ∧
      (s.cache.tfineValid = false → tf.toInt = tfineOf s.cache.adcT s.store.tp) := by
  cases hvalid : s.cache.tfineValid with
  | true =>
    refine ⟨s.cache.tFine, ?_, fun _ => rfl, nofun⟩
    rw [withTFine, if_pos hvalid, ← hvalid]
  | false =>
    refine ⟨tFineReg s.cache.adcT s.store.tp, ?_, nofun, fun _ => tFineReg_toInt _ _⟩
    rw [withTFine, if_neg (by simp [hvalid])]
    rfl

/-- A signed register is sign-extended in RESULT without a change of its value (R31). -/
theorem result_toInt {n : Nat} (x : BitVec n) (hn : n ≤ 128) : (BitVec.ofInt 128 x.toInt).toInt = x.toInt :=
  BitVec.toInt_signExtend_of_le hn

/-- Settles O34: T_OUT is computed from T_FINE, and RESULT is T_OUT. -/
theorem readTempComputesTemperature : Obligations.ReadTempComputesTemperature := by
  intro s u hready hu hinvalid
  obtain ⟨b, hexec⟩ := exec_of_obtained (i := .readTemp) rfl (Reader.enabled_of_ne_hum nofun hready) hu
  obtain ⟨tf, hfine, hkept, hcomputed⟩ := exists_withTFine_eq u
  obtain ⟨hport, hinterval, hstore⟩ := hu.frame
  rw [withOutput, if_neg (by simp [hinvalid]), hfine] at hexec
  refine ⟨_, hexec, ?_, ?_, rfl, tOutReg_toInt tf, hkept, ?_, hinterval, hstore, rfl⟩
  · rw [← hport]
    rfl
  · exact (result_toInt (tOutReg tf) (by decide)).trans (tOutReg_toInt tf)
  · rw [← hstore]
    exact hcomputed

theorem completePres_of_undef {s : State} (h : s.cache.pUndef = true) :
    completePres s = complete .undefinedResult 0 s :=
  if_pos h

theorem completePres_of_defined {s : State} (h : s.cache.pUndef = false) :
    completePres s = complete .ok s.cache.pOut.toInt s :=
  if_neg (by simp [h])

/-- Settles O35: P_OUT and P_UNDEF are computed from T_FINE, and the completion follows P_UNDEF. -/
theorem readPresComputesPressure : Obligations.ReadPresComputesPressure := by
  intro s u hready hu hinvalid
  obtain ⟨b, hexec⟩ := exec_of_obtained (i := .readPres) rfl (Reader.enabled_of_ne_hum nofun hready) hu
  obtain ⟨tf, hfine, hkept, hcomputed⟩ := exists_withTFine_eq u
  obtain ⟨hport, hinterval, hstore⟩ := hu.frame
  rw [withOutput, if_neg (by simp [hinvalid]), hfine, answered] at hexec
  rw [← hstore, ← hport, ← hinterval]
  cases hpres : presOf tf u.cache.adcP u.store.tp with
  | none =>
    have hreg := pOutReg_of_none hpres
    rw [completePres_of_undef (congrArg Prod.snd hreg)] at hexec
    refine ⟨_, hexec, rfl, hkept, hcomputed, fun _ => ⟨rfl, congrArg Prod.fst hreg, congrArg Prod.snd hreg⟩,
      fun r hr => ?_, rfl, rfl, rfl⟩
    cases hpres.symm.trans hr
  | some p =>
    have hreg := pOutReg_of_some hpres
    have hvalue : (pOutReg tf u.cache.adcP u.store.tp).1.toInt = p :=
      (outputRegistersHoldExactResults.2.2.1 tf _ _ p hpres).1
    rw [completePres_of_defined (congrArg Prod.snd hreg)] at hexec
    refine ⟨_, hexec, rfl, hkept, hcomputed, fun hnone => ?_, fun r hr => ?_, rfl, rfl, rfl⟩
    · cases hpres.symm.trans hnone
    · cases hpres.symm.trans hr
      exact ⟨rfl, (result_toInt _ le_rfl).trans hvalue, hvalue, congrArg Prod.snd hreg⟩

/-- Settles O36: H_OUT is computed from T_FINE, and RESULT is H_OUT. -/
theorem readHumComputesHumidity : Obligations.ReadHumComputesHumidity := by
  intro s u hready htph hu hinvalid
  obtain ⟨b, hexec⟩ := exec_of_obtained (i := .readHum) rfl ⟨hready, fun _ => htph⟩ hu
  obtain ⟨tf, hfine, hkept, hcomputed⟩ := exists_withTFine_eq u
  obtain ⟨hport, hinterval, hstore⟩ := hu.frame
  rw [withOutput, if_neg (by simp [hinvalid]), hfine] at hexec
  rw [← hstore, ← hport, ← hinterval]
  have hvalue := hOutReg_toNat tf u.cache.adcH u.store.hum
  refine ⟨_, hexec, rfl, ?_, rfl, hvalue, hkept, hcomputed, rfl, rfl, rfl⟩
  have hwidth := (hOutReg tf u.cache.adcH u.store.hum).isLt
  exact (ofInt_toInt_of_mem (n := 127) ⟨by omega, by omega⟩).trans hvalue

/-! SUPPORT. The cached outputs (R240, R244, R250): a valid output is not computed again. -/

theorem withOutput_of_valid {r : Reader} {s : State} (h : r.outputValid s = true) : withOutput r s = s := by
  cases r with
  | refresh => rfl
  | temp => exact if_pos h
  | pres => exact if_pos h
  | hum => exact if_pos h

theorem outputValid_withOutput (r : Reader) (s : State) : r.outputValid (withOutput r s) = true := by
  apply withOutput_rule (Q := fun u => r.outputValid u = true)
  case valid => exact id
  case temp =>
    rintro rfl
    rfl
  case pres =>
    rintro rfl
    rfl
  case hum =>
    rintro rfl
    rfl

theorem outputValid_of_same_cache (r : Reader) {s t : State} (h : t.cache = s.cache) :
    r.outputValid t = r.outputValid s := by
  simp only [Reader.outputValid, h]

/-- On a fresh sample with its output cached, a command answers at once. -/
theorem exec_of_cached {i : Instr} {r : Reader} {s : State} (hi : i.reader? = some r) (hr : r.Enabled s)
    (hfresh : SampleFresh s.port.arg s) (hvalid : r.outputValid s = true) :
    exec i s = .next (answered r false s) := by
  rw [exec_reader_of_ready hi hr.ready hr.tph, ensureFresh_of_fresh hfresh, finish_eq, withOutput_of_valid hvalid]

/-- Settles O37: the cached output goes to RESULT by its own extension. -/
theorem accessorsReturnCachedOutputs : Obligations.AccessorsReturnCachedOutputs := by
  intro s hready hfresh
  refine ⟨?temp, ?undef, ?pres, ?hum⟩
  case temp => exact fun hvalid => exec_of_cached (r := .temp) rfl (Reader.enabled_of_ne_hum nofun hready) hfresh hvalid
  case undef =>
    intro hvalid hundef
    rw [exec_of_cached (r := .pres) rfl (Reader.enabled_of_ne_hum nofun hready) hfresh hvalid, answered,
      completePres_of_undef hundef]
    rfl
  case pres =>
    intro hvalid hundef
    rw [exec_of_cached (r := .pres) rfl (Reader.enabled_of_ne_hum nofun hready) hfresh hvalid, answered,
      completePres_of_defined hundef, complete, setResult, BitVec.ofInt_toInt]
    rfl
  case hum =>
    intro htph hvalid
    rw [exec_of_cached (r := .hum) rfl ⟨hready, fun _ => htph⟩ hfresh hvalid]
    exact congrArg Host.Outcome.next (complete_toNat .ok s.cache.hOut s)

/-- What a READ_* answers depends on the cache only. -/
theorem answered_codes {r : Reader} (hr : r ≠ .refresh) (b b' : Bool) {s t : State} (h : t.cache = s.cache) :
    (answered r b t).port.completion = (answered r b' s).port.completion ∧
      (answered r b t).port.result = (answered r b' s).port.result := by
  cases r with
  | refresh => exact absurd rfl hr
  | temp => exact ⟨rfl, by simp only [answered, completeTemp, complete_result, h]⟩
  | pres =>
    cases hundef : s.cache.pUndef with
    | true =>
      simp only [answered, completePres_of_undef hundef, completePres_of_undef (h ▸ hundef)]
      exact ⟨rfl, rfl⟩
    | false =>
      simp only [answered, completePres_of_defined hundef, completePres_of_defined (h ▸ hundef), h]
      exact ⟨rfl, rfl⟩
  | hum => exact ⟨rfl, by simp only [answered, completeHum, complete_result, h]⟩

theorem answered_state (r : Reader) (b : Bool) (s : State) : (answered r b s).port.state = s.port.state := by
  obtain ⟨c, v, h⟩ := exists_answered_eq r b s
  rw [h, complete_state]

theorem answered_variant (r : Reader) (b : Bool) (s : State) : (answered r b s).port.variant = s.port.variant := by
  obtain ⟨c, v, h⟩ := exists_answered_eq r b s
  rw [h, complete_variant]

theorem withOutput_port (r : Reader) (s : State) : (withOutput r s).port = s.port := by
  have hfine := withTFine_port s
  exact withOutput_rule (Q := fun u => u.port = s.port) (fun _ => rfl) (fun _ => hfine) (fun _ => hfine)
    (fun _ => hfine)

/-- A command that has answered leaves its output valid, and can be issued again. -/
theorem AnsweredIn.again {r : Reader} {s t : State} (h : AnsweredIn r s t) :
    r.Enabled t ∧ r.outputValid t = true ∧ ∃ b u, u.cache = t.cache ∧ t = answered r b u := by
  obtain ⟨hr, u, b, hu, rfl⟩ := h
  have hcache := answered_cache r b (withOutput r u)
  have hport := hu.frame.1
  refine ⟨⟨?_, fun hhum => ?_⟩, ?_, b, withOutput r u, hcache.symm, rfl⟩
  · rw [answered_state, withOutput_port, hport, hr.ready]
  · rw [answered_variant, withOutput_port, hport, hr.tph hhum]
  · rw [outputValid_of_same_cache r hcache, outputValid_withOutput]

/-- Settles O40: the first command has cached its output, which the second one answers from the same cache. -/
theorem accessorsAreIdempotent : Obligations.AccessorsAreIdempotent := by
  intro i s t arg hi ht hidle hcode hfresh
  obtain ⟨r, hreader, hne⟩ : ∃ r, i.reader? = some r ∧ r ≠ .refresh := by
    rcases hi with rfl | rfl | rfl
    · exact ⟨.temp, rfl, nofun⟩
    · exact ⟨.pres, rfl, nofun⟩
    · exact ⟨.hum, rfl, nofun⟩
  obtain ⟨hr, hvalid, b, u, hcache, hu⟩ := (exec_answeredIn hreader t ht hidle hcode).again
  have hagain : exec i (latched arg (encode i) t) = .next (answered r false (latched arg (encode i) t)) :=
    exec_of_cached hreader ⟨hr.ready, hr.tph⟩ hfresh
      ((outputValid_of_same_cache r rfl).trans hvalid)
  obtain ⟨hcompletion, hresult⟩ := answered_codes hne false b (s := u) (t := latched arg (encode i) t) hcache.symm
  exact ⟨_, hagain, by rw [hcompletion, ← hu], by rw [hresult, ← hu], answered_agents _ _ _, answered_cache _ _ _⟩

end Sys2Proof.Machine

namespace Sys2Proof.Machine

/-! SUPPORT. A busy engine past its checks: the events it may add, the codes it may end with, and its one refusal. -/

/-- How a command in s can come out once its checks have passed. It does not fault, ends with none of the codes of the
checks, and adds lawful events only (R63, R134, R302). -/
inductive PastChecks (s : State) : Out → Prop
  | next (t : State) (es : List BusEvent) (hlawful : ∀ e ∈ es, e.lawful)
    (hhistory : t.agents.history = s.agents.history ++ es)
    (hcode : t.port.busy = false → t.port.completion ∉ earlyCodes) : PastChecks s (.next t)
  | refuses : PastChecks s (.refused .notAnAnswer)

/-- A command may go on from the lawful events it has issued. -/
theorem PastChecks.after {s u : State} {o : Out} (h : PastChecks u o) (es : List BusEvent)
    (hhistory : u.agents.history = s.agents.history ++ es) (hlawful : ∀ e ∈ es, e.lawful) : PastChecks s o := by
  cases h with
  | next t es' hlawful' hhistory' hcode =>
    exact .next t (es ++ es') (List.forall_mem_append.mpr ⟨hlawful, hlawful'⟩)
      (by rw [hhistory', hhistory, List.append_assoc]) hcode
  | refuses => exact .refuses

theorem pastChecks_stall (p : Pending) (s : State) : PastChecks s (.next (stall p s)) :=
  .next _ [] (List.forall_mem_nil _) (List.append_nil _).symm nofun

theorem pastChecks_commErr {e : BusEvent} (rest : List BusAnswer) (s : State) (he : e.lawful) :
    PastChecks s (.next (raise .communicationError (record e (takeAnswer rest s)))) :=
  .next _ [e] (List.forall_mem_singleton.mpr he) rfl (fun _ => (by decide : Completion.communicationError ∉ earlyCodes))

/-- What only computes and completes without an error adds no event. -/
theorem Returns.pastChecks {s : State} {o : Out} (h : Returns s.agents o) : PastChecks s o := by
  obtain ⟨t, rfl, -, hcode, hagents⟩ := h
  refine .next t [] (List.forall_mem_nil _) (by rw [hagents, List.append_nil]) fun _ hearly => ?_
  have herror : t.port.completion.isError = true := by
    generalize t.port.completion = c at hearly
    revert c
    decide
  simp [hcode] at herror

theorem lawful_readEvent {off : Byte} {n : Nat} {answer : Option (List Byte)} (h : (off, n) ∈ readTransactions)
    (hlength : ∀ bs, answer = some bs → bs.length = n) : (readEvent off n answer).lawful :=
  ⟨rfl, h, hlength⟩

theorem burst_mem_readTransactions (v : Variant) : (0xF7, burstLength v) ∈ readTransactions := by
  cases v <;> decide

theorem memRead_pastChecks {off : Byte} {n : Nat} {p : Pending} {k : Option (List Byte) → State → Out}
    (hoff : (off, n) ∈ readTransactions) (hfails : ∀ u, k none u = .next (raise .communicationError u))
    (hanswers : ∀ bs u, PastChecks u (k (some bs) u)) (s : State) : PastChecks s (memRead off n p k s) := by
  apply memRead_rule
  case waits => exact fun _ => pastChecks_stall p s
  case fails =>
    intro rest _
    rw [hfails]
    exact pastChecks_commErr rest s (lawful_readEvent hoff nofun)
  case answers =>
    intro bs rest _ hlength
    have hlawful : (readEvent off n (some bs)).lawful :=
      lawful_readEvent hoff fun bs' hbs => Option.some.inj hbs ▸ hlength
    exact (hanswers bs _).after [_] rfl (List.forall_mem_singleton.mpr hlawful)
  case wrong => exact .refuses

theorem readBurst_pastChecks (r : Reader) (s : State) : PastChecks s (readBurst r (finish r) s) := by
  refine memRead_pastChecks (burst_mem_readTransactions _) (fun _ => rfl) (fun bs u => ?_) s
  exact Returns.pastChecks (finish_returns r true (loadSample u.port.arg bs u))

theorem convert_pastChecks (r : Reader) (s : State) : PastChecks s (convert r (finish r) s) := by
  have hcontrol : ∀ ok, (controlEvent ok).lawful := fun _ => ⟨rfl, rfl, rfl⟩
  apply convert_rule
  case waits => exact fun _ => pastChecks_stall _ s
  case fails => exact fun rest _ => pastChecks_commErr rest s (hcontrol false)
  case answers =>
    intro rest _
    refine (readBurst_pastChecks r _).after [controlEvent true, settleEvent] (List.append_assoc _ _ _) ?_
    exact List.forall_mem_cons.mpr ⟨hcontrol true, List.forall_mem_singleton.mpr rfl⟩
  case wrong => exact .refuses

theorem ensureFresh_pastChecks (r : Reader) (s : State) : PastChecks s (ensureFresh r (finish r) s) :=
  ensureFresh_rule (fun _ => (finish_returns r false s).pastChecks) (fun _ => convert_pastChecks r s)

theorem readHumidityRest_pastChecks (id : Byte) (c : List Byte) (a : Byte) (s : State) :
    PastChecks s (readHumidityRest id c a s) := by
  refine memRead_pastChecks (by decide) (fun _ => rfl) (fun e u => ?_) s
  exact Returns.pastChecks (returns_complete_ok _ (commitHum a e (commitTp id c u)))

theorem readHumidityFirst_pastChecks (id : Byte) (c : List Byte) (s : State) :
    PastChecks s (readHumidityFirst id c s) :=
  memRead_pastChecks (by decide) (fun _ => rfl) (fun a u => readHumidityRest_pastChecks id c (byteAt a 0) u) s

theorem readCalibration_pastChecks (id : Byte) (s : State) : PastChecks s (readCalibration id s) := by
  refine memRead_pastChecks (by decide) (fun _ => rfl) (fun c u => ?_) s
  simp only [gotCalibration]
  split
  · exact readHumidityFirst_pastChecks id c u
  · exact Returns.pastChecks (returns_complete_ok _ (commitTp id c u))

theorem readIdentity_pastChecks (s : State) : PastChecks s (readIdentity s) := by
  refine memRead_pastChecks (by decide) (fun _ => rfl) (fun bs u => ?_) s
  simp only [gotIdentity]
  split
  · exact .next _ [] (List.forall_mem_nil _) (List.append_nil _).symm
      (fun _ => (by decide : Completion.unrecognizedDevice ∉ earlyCodes))
  · exact readCalibration_pastChecks _ u

theorem resume_pastChecks (p : Pending) (s : State) : PastChecks s (resume p s) := by
  cases p with
  | identity => exact readIdentity_pastChecks s
  | calibration id => exact readCalibration_pastChecks id s
  | humidityFirst id c => exact readHumidityFirst_pastChecks id c s
  | humidityRest id c a => exact readHumidityRest_pastChecks id c a s
  | control r => exact convert_pastChecks r s
  | burst r => exact readBurst_pastChecks r s

/-- A check has stopped the command in s before its first event (R134). -/
def StoppedByCheck (s : State) (o : Out) : Prop := ∃ c ∈ earlyCodes, o = .next (raise c s)

theorem exec_checks (i : Instr) (s : State) : StoppedByCheck s (exec i s) ∨ PastChecks s (exec i s) := by
  have hreader : ∀ {r : Reader}, i.reader? = some r → StoppedByCheck s (exec i s) ∨ PastChecks s (exec i s) := by
    intro r hi
    apply exec_reader_rule (Q := fun o => StoppedByCheck s o ∨ PastChecks s o) hi
    case notReady => exact fun _ => .inl ⟨.notReady, by decide, rfl⟩
    case unsupported => exact fun _ _ _ => .inl ⟨.unsupportedOperation, by decide, rfl⟩
    case enabled => exact fun _ => .inr (ensureFresh_pastChecks r s)
  cases i with
  | nop => exact .inr (Returns.pastChecks ⟨_, rfl, rfl, rfl, rfl⟩)
  | init =>
    cases hstate : s.port.state with
    | uninit =>
      rw [exec_init_of_uninit hstate]
      exact .inr (readIdentity_pastChecks s)
    | ready =>
      rw [exec_init_of_ready hstate]
      exact .inl ⟨.alreadyInitialized, by decide, rfl⟩
    | failed =>
      rw [exec_init_of_failed hstate]
      exact .inl ⟨.notReady, by decide, rfl⟩
  | setInterval => exact .inr (Returns.pastChecks (returns_complete_ok _ (setInterval s.port.arg s)))
  | refresh => exact hreader rfl
  | readTemp => exact hreader rfl
  | readPres => exact hreader rfl
  | readHum => exact hreader rfl

/-- A step of a busy engine is stopped by a check, or gets past all of them. -/
theorem step_checks {s : State} (hb : s.port.busy = true) : StoppedByCheck s (step s) ∨ PastChecks s (step s) := by
  apply step_rule (Q := fun o => StoppedByCheck s o ∨ PastChecks s o)
  case idles => simp [hb]
  case resumes => exact fun p _ _ => .inr (resume_pastChecks p s)
  case executes => exact fun i _ _ _ => exec_checks i s
  case illegal => exact fun _ _ _ => .inl ⟨.illegalCommand, by decide, rfl⟩

/-- Settles O43: past the checks none of their codes is left, and a check only raises its code. -/
theorem earlyChecksIssueNoBusEvent : Obligations.EarlyChecksIssueNoBusEvent := by
  intro s t hb _ hstep hidle hcode
  have hearly : t.port.completion ∈ earlyCodes := by simpa [earlyCodes, or_assoc] using hcode
  have hchecks := step_checks hb
  rw [hstep] at hchecks
  rcases hchecks with ⟨c, -, ⟨⟩⟩ | hpast
  · rfl
  · cases hpast with
    | next _ _ _ _ hnot => exact absurd hearly (hnot hidle)

/-- HOST adds no event (R75, R322). -/
theorem idle_same_history {s : State} (hb : s.port.busy = false) :
    Ensures (fun t => t.agents.history = s.agents.history) (idle s) := by
  apply idle_rule hb
  case rests => exact fun _ => ensures_next rfl
  case issued => exact fun _ _ _ _ => ensures_next rfl
  case reset => exact fun _ _ => ensures_next rfl
  case seen => exact fun _ _ _ => ensures_next rfl
  case fault => exact ensures_fault _
  case refused => exact ensures_refused _

/-- Settles O49: the events are those of a command past its checks; a check and HOST add none. -/
theorem stepAddsOnlyLawfulBusEvents : Obligations.StepAddsOnlyLawfulBusEvents := by
  intro s t hstep
  cases hb : s.port.busy with
  | false =>
    have hidle : idle s = .next t := by rwa [step, hb] at hstep
    exact ⟨[], by rw [idle_same_history hb t hidle, List.append_nil], List.forall_mem_nil _, fun _ => rfl⟩
  | true =>
    have hchecks := step_checks hb
    rw [hstep] at hchecks
    rcases hchecks with ⟨c, -, ⟨⟩⟩ | hpast
    · exact ⟨[], (List.append_nil _).symm, List.forall_mem_nil _, nofun⟩
    · cases hpast with
      | next _ es hlawful hhistory _ => exact ⟨es, hhistory, hlawful, nofun⟩

/-- Settles O50: neither a check nor a command past its checks faults. -/
theorem busyEngineNeverFaults : Obligations.BusyEngineNeverFaults := by
  intro s f hb hfault
  have hchecks := step_checks hb
  rw [hfault] at hchecks
  rcases hchecks with ⟨c, -, hnext⟩ | hpast
  · cases hnext
  · cases hpast

/-- Settles O52: of the ways a busy step comes out, only a wait keeps BUSY, and it has used up the answers; the one
refusal is that of a command past its checks. -/
theorem commandCompletesWhenBusAnswers : Obligations.CommandCompletesWhenBusAnswers := by
  intro s hb
  have hchecks := step_checks hb
  have houtcome := step_commandOutcome hb
  generalize step s = o at hchecks houtcome
  cases houtcome with
  | waits p es _ => exact .inl ⟨_, rfl, .inr rfl⟩
  | returns t es _ hbusy _ _ => exact .inl ⟨t, rfl, .inl hbusy⟩
  | rejects c rest es _ _ => exact .inl ⟨_, rfl, .inl rfl⟩
  | commErr rest es e _ _ => exact .inl ⟨_, rfl, .inl rfl⟩
  | unrecognized id rest es _ => exact .inl ⟨_, rfl, .inl rfl⟩
  | refuses q =>
    rcases hchecks with ⟨c, -, hnext⟩ | hpast
    · cases hnext
    · cases hpast
      exact .inr rfl

end Sys2Proof.Machine

namespace Sys2Proof.Machine

/-! SUPPORT. A command that stops for want of answers and goes on with more (R131, R301): its open request issues the
same bus access again, with the same rest of the command. -/

/-- When f stops in s after the answers `first` and waits, the next step with the answers `more` does what f would have
done with all of them at once. -/
def ResumableAt (f : State → Out) (s : State) : Prop :=
  ∀ first more t, s.port.busy = true → f (withBus first s) = .next t → t.port.busy = true →
    step (withBus more t) = f (withBus (first ++ more) s)

/-- A part of a command that always completes never stops to wait. -/
theorem resumableAt_of_completes {f : State → Out} (h : ∀ s, Ensures (fun t => t.port.busy = false) (f s))
    (s : State) : ResumableAt f s := by
  intro first more t _ ht hwaits
  simp [h _ t ht] at hwaits

/-- Only what f does with the answers to come in s counts. -/
theorem ResumableAt.congr {f g : State → Out} {s : State} (hg : ResumableAt g s)
    (h : ∀ answers, f (withBus answers s) = g (withBus answers s)) : ResumableAt f s := by
  simpa only [ResumableAt, h] using hg

theorem takeAnswer_stall (rest : List BusAnswer) (p : Pending) {s : State} (hb : s.port.busy = true) :
    takeAnswer rest (stall p s) = takeAnswer rest s := by
  rw [takeAnswer, stall, ← hb]
  rfl

/-- A MemRead looks neither at the open request nor at BUSY, which is 1 in both. -/
theorem memRead_stall {off : Byte} {n : Nat} {p : Pending} {k : Option (List Byte) → State → Out} {s : State}
    (hb : s.port.busy = true) : memRead off n p k (stall p s) = memRead off n p k s := by
  unfold memRead
  simp only [takeAnswer_stall _ p hb, stall_agents]
  rfl

theorem memWriteControl_stall {p : Pending} {k : Bool → State → Out} {s : State} (hb : s.port.busy = true) :
    memWriteControl p k (stall p s) = memWriteControl p k s := by
  unfold memWriteControl
  simp only [takeAnswer_stall _ p hb, stall_agents]
  rfl

theorem memRead_resumableAt {off : Byte} {n : Nat} {p : Pending} {k : Option (List Byte) → State → Out} {s : State}
    (hresume : ∀ u, u.port.variant = s.port.variant → resume p u = memRead off n p k u)
    (hk : ∀ answer u, ResumableAt (k answer) u) : ResumableAt (memRead off n p k) s := by
  intro first more t hb ht hwaits
  rcases first with - | ⟨- | - | bs, rest⟩
  case nil =>
    rw [memRead_waits rfl] at ht
    cases ht
    calc step (withBus more (stall p (withBus [] s)))
        = resume p (stall p (withBus more s)) := step_of_pending rfl rfl
      _ = memRead off n p k (stall p (withBus more s)) := hresume _ rfl
      _ = memRead off n p k (withBus more s) := memRead_stall hb
  case cons.commErr =>
    rw [memRead_fails rfl] at ht
    rw [memRead_fails rfl]
    exact hk none (record _ (takeAnswer [] s)) rest more t hb ht hwaits
  case cons.ok => cases ht
  case cons.bytes =>
    by_cases hn : bs.length = n
    · rw [memRead_answers rfl hn] at ht
      rw [memRead_answers rfl hn]
      exact hk (some bs) (record _ (takeAnswer [] s)) rest more t hb ht hwaits
    · have hwrong : memRead off n p k (withBus (.bytes bs :: rest) s) = .refused .notAnAnswer := if_neg hn
      cases hwrong.symm.trans ht

theorem memWriteControl_resumableAt {p : Pending} {k : Bool → State → Out} {s : State}
    (hresume : ∀ u, resume p u = memWriteControl p k u) (hk : ∀ ok u, ResumableAt (k ok) u) :
    ResumableAt (memWriteControl p k) s := by
  intro first more t hb ht hwaits
  rcases first with - | ⟨- | - | bs, rest⟩
  case nil =>
    rw [memWriteControl_waits rfl] at ht
    cases ht
    calc step (withBus more (stall p (withBus [] s)))
        = resume p (stall p (withBus more s)) := step_of_pending rfl rfl
      _ = memWriteControl p k (stall p (withBus more s)) := hresume _
      _ = memWriteControl p k (withBus more s) := memWriteControl_stall hb
  case cons.commErr =>
    rw [memWriteControl_fails rfl] at ht
    rw [memWriteControl_fails rfl]
    exact hk false (record _ (takeAnswer [] s)) rest more t hb ht hwaits
  case cons.ok =>
    rw [memWriteControl_answers rfl] at ht
    rw [memWriteControl_answers rfl]
    exact hk true (record _ (takeAnswer [] s)) rest more t hb ht hwaits
  case cons.bytes => cases ht

/-! The refresh -/

theorem raise_resumableAt (c : Completion) (s : State) : ResumableAt (fun s => .next (raise c s)) s :=
  resumableAt_of_completes (fun _ => ensures_next rfl) s

theorem finish_resumableAt (r : Reader) (b : Bool) (s : State) : ResumableAt (finish r b) s := by
  refine resumableAt_of_completes (fun u => ?_) s
  obtain ⟨t, ht, hidle, -⟩ := finish_returns r b u
  rw [ht]
  exact ensures_next hidle

theorem gotBurst_resumableAt (r : Reader) (answer : Option (List Byte)) (s : State) :
    ResumableAt (gotBurst (finish r) answer) s := by
  cases answer with
  | none => exact raise_resumableAt _ s
  | some bs =>
    exact fun first more t => finish_resumableAt r true (loadSample s.port.arg bs s) first more t

theorem readBurst_resumableAt (r : Reader) (s : State) : ResumableAt (readBurst r (finish r)) s := by
  refine memRead_resumableAt (n := burstLength s.port.variant) (fun u hu => ?_) (gotBurst_resumableAt r)
  rw [← hu]
  rfl

theorem gotControl_resumableAt (r : Reader) (ok : Bool) (s : State) :
    ResumableAt (gotControl r (finish r) ok) s := by
  cases ok with
  | false => exact raise_resumableAt _ s
  | true => exact fun first more t => readBurst_resumableAt r (record settleEvent s) first more t

theorem convert_resumableAt (r : Reader) (s : State) : ResumableAt (convert r (finish r)) s :=
  memWriteControl_resumableAt (fun _ => rfl) (gotControl_resumableAt r)

/-- A choice that does not look at the answers. -/
theorem ite_resumableAt {cond : State → Prop} [∀ s, Decidable (cond s)] {f g : State → Out} {s : State}
    (hf : ResumableAt f s) (hg : ResumableAt g s)
    (hcond : ∀ answers, cond (withBus answers s) ↔ cond s := by exact fun _ => Iff.rfl) :
    ResumableAt (fun s => if cond s then f s else g s) s := by
  by_cases h : cond s
  · exact hf.congr fun answers => if_pos ((hcond answers).mpr h)
  · exact hg.congr fun answers => if_neg (mt (hcond answers).mp h)

theorem ensureFresh_resumableAt (r : Reader) (s : State) : ResumableAt (ensureFresh r (finish r)) s :=
  ite_resumableAt (finish_resumableAt r false s) (convert_resumableAt r s)

/-! INIT -/

theorem readHumidityRest_resumableAt (id : Byte) (c : List Byte) (a : Byte) (s : State) :
    ResumableAt (readHumidityRest id c a) s := by
  refine memRead_resumableAt (fun _ _ => rfl) ?_
  rintro (- | e)
  · exact raise_resumableAt _
  · exact resumableAt_of_completes fun _ => ensures_next rfl

theorem readHumidityFirst_resumableAt (id : Byte) (c : List Byte) (s : State) :
    ResumableAt (readHumidityFirst id c) s := by
  refine memRead_resumableAt (fun _ _ => rfl) ?_
  rintro (- | a)
  · exact raise_resumableAt _
  · exact readHumidityRest_resumableAt id c (byteAt a 0)

theorem readCalibration_resumableAt (id : Byte) (s : State) : ResumableAt (readCalibration id) s := by
  refine memRead_resumableAt (fun _ _ => rfl) ?_
  rintro (- | c) u
  · exact raise_resumableAt _ u
  · exact ite_resumableAt (readHumidityFirst_resumableAt id c u)
      (resumableAt_of_completes (fun _ => ensures_next rfl) u)

theorem readIdentity_resumableAt (s : State) : ResumableAt readIdentity s := by
  refine memRead_resumableAt (fun _ _ => rfl) ?_
  rintro (- | bs) u
  · exact raise_resumableAt _ u
  · exact ite_resumableAt (resumableAt_of_completes (fun _ => ensures_next rfl) u)
      (readCalibration_resumableAt (byteAt bs 0) u)

theorem execInit_resumableAt (s : State) : ResumableAt execInit s := by
  cases hstate : s.port.state with
  | uninit => exact (readIdentity_resumableAt s).congr fun _ => exec_init_of_uninit hstate
  | ready => exact (raise_resumableAt .alreadyInitialized s).congr fun _ => exec_init_of_ready hstate
  | failed => exact (raise_resumableAt .notReady s).congr fun _ => exec_init_of_failed hstate

/-! The commands -/

theorem whenReady_resumableAt {f : State → Out} {s : State} (hf : ResumableAt f s) :
    ResumableAt (fun s => if s.port.state = .ready then f s else .next (raise .notReady s)) s :=
  ite_resumableAt hf (raise_resumableAt _ s)

theorem exec_resumableAt (i : Instr) (s : State) : ResumableAt (exec i) s := by
  cases i with
  | nop => exact raise_resumableAt _ s
  | init => exact execInit_resumableAt s
  | setInterval => exact resumableAt_of_completes (fun _ => ensures_next rfl) s
  | refresh => exact whenReady_resumableAt (ensureFresh_resumableAt .refresh s)
  | readTemp => exact whenReady_resumableAt (ensureFresh_resumableAt .temp s)
  | readPres => exact whenReady_resumableAt (ensureFresh_resumableAt .pres s)
  | readHum =>
    exact whenReady_resumableAt (ite_resumableAt (ensureFresh_resumableAt .hum s) (raise_resumableAt _ s))

theorem resume_resumableAt (p : Pending) (s : State) : ResumableAt (resume p) s := by
  cases p with
  | identity => exact readIdentity_resumableAt s
  | calibration id => exact readCalibration_resumableAt id s
  | humidityFirst id c => exact readHumidityFirst_resumableAt id c s
  | humidityRest id c a => exact readHumidityRest_resumableAt id c a s
  | control r => exact convert_resumableAt r s
  | burst r => exact readBurst_resumableAt r s

/-- A step of a busy engine is one and the same function of the answers (R131). -/
theorem step_resumableAt {s : State} (hb : s.port.busy = true) : ResumableAt step s := by
  cases hp : s.port.pending with
  | some p => exact (resume_resumableAt p s).congr fun _ => step_of_pending hb hp
  | none =>
    by_cases hillegal : ∀ i, decode s.port.cmd ≠ .instr i
    · exact (raise_resumableAt .illegalCommand s).congr fun _ => step_of_illegal_word hb hp hillegal
    · obtain ⟨i, hi⟩ := not_forall_not.mp hillegal
      exact (exec_resumableAt i s).congr fun _ => step_of_instr hb hp hi

/-- Settles O54: a busy engine's step is resumable. -/
theorem waitingForAnswersIsInvisible : Obligations.WaitingForAnswersIsInvisible :=
  fun _ t first more hb ht hwaits => step_resumableAt hb first more t hb ht hwaits

end Sys2Proof.Machine

namespace Sys2Proof.Machine

/-! SUPPORT. States that differ in registers without a value only (R21): such a difference passes every operation, and
no operation reads such a register. -/

/-- t is s with other contents in the registers that hold no value in s. -/
def Alike (s t : State) : Prop := ∃ x, t = withNoValues x s

/-- The two outcomes end the same way, with alike next states. -/
inductive AlikeOut : Out → Out → Prop
  | next {s t : State} (h : Alike s t) : AlikeOut (.next s) (.next t)
  | fault (f : Fault) : AlikeOut (.fault f) (.fault f)
  | refused (q : Refusal) : AlikeOut (.refused q) (.refused q)

theorem alike_withNoValues (x s : State) : Alike s (withNoValues x s) := ⟨x, rfl⟩

/-- Two states are alike when putting the one's contents into the other changes no register that holds a value. -/
theorem alike_of_eq {s t : State} (h : withNoValues t s = t) : Alike s t := ⟨t, h.symm⟩

theorem keepHeld_self {α : Type} (s : State) (r : Reg) (a : α) : keepHeld s r a a = a := ite_self a

theorem alike_refl (s : State) : Alike s s :=
  alike_of_eq (by simp only [withNoValues, keepHeld_self])

/-- Which registers hold a value does not depend on what the others contain. -/
theorem holdsValue_withNoValues (r : Reg) (x s : State) : holdsValue r (withNoValues x s) = holdsValue r s := by
  cases r <;> rfl

theorem keepHeld_withNoValues {α : Type} (x s : State) (r : Reg) (a b c : α) :
    keepHeld (withNoValues x s) r (keepHeld s r a b) c = keepHeld s r a c := by
  simp only [keepHeld, holdsValue_withNoValues]
  split <;> rfl

theorem withNoValues_withNoValues (x y s : State) : withNoValues x (withNoValues y s) = withNoValues x s := by
  simp only [withNoValues, State.mk.injEq, Port.mk.injEq, CalibStore.mk.injEq, SampleCache.mk.injEq, true_and,
    and_true]
  exact ⟨⟨keepHeld_withNoValues y s .chipId _ _ _, keepHeld_withNoValues y s .cmd _ _ _,
    keepHeld_withNoValues y s .arg _ _ _⟩, ⟨keepHeld_withNoValues y s .t1 _ _ _, keepHeld_withNoValues y s .h1 _ _ _⟩,
    keepHeld_withNoValues y s .adcP _ _ _, keepHeld_withNoValues y s .adcT _ _ _,
    keepHeld_withNoValues y s .adcH _ _ _, keepHeld_withNoValues y s .lastTs _ _ _,
    keepHeld_withNoValues y s .tFine _ _ _, keepHeld_withNoValues y s .tOut _ _ _,
    keepHeld_withNoValues y s .pOut _ _ _, keepHeld_withNoValues y s .hOut _ _ _⟩

theorem AlikeOut.onNext_eq {o o' : Out} (h : AlikeOut o o') (x : State) :
    onNext (withNoValues x) o' = onNext (withNoValues x) o := by
  cases h with
  | next h =>
    obtain ⟨y, rfl⟩ := h
    exact congrArg Host.Outcome.next (withNoValues_withNoValues x y _)
  | fault f => rfl
  | refused q => rfl

/-- What the operation does in s is the same whatever the registers without a value contain. -/
def IgnoresNoValuesAt (f : State → Out) (s : State) : Prop := ∀ x, AlikeOut (f s) (f (withNoValues x s))

theorem keepHeld_of_held {α : Type} (s : State) (r : Reg) (h : holdsValue r s = true) (a b : α) :
    keepHeld s r a b = a :=
  if_pos h

theorem keepHeld_keepHeld {α : Type} (s : State) (r : Reg) (a b : α) :
    keepHeld s r a (keepHeld s r a b) = keepHeld s r a b := by
  simp only [keepHeld]
  split <;> rfl

/-- A new sample makes T_FINE and the outputs lose their values, and writes every register that it gives one (R203). -/
theorem loadSample_alike (now : BitVec 64) (bs : List Byte) (s x : State) :
    Alike (loadSample now bs s) (loadSample now bs (withNoValues x s)) := by
  apply alike_of_eq
  simp only [withNoValues, loadSample, State.mk.injEq, Port.mk.injEq, CalibStore.mk.injEq, SampleCache.mk.injEq,
    true_and, and_true]
  refine ⟨⟨keepHeld_keepHeld s .chipId _ _, keepHeld_keepHeld s .cmd _ _, keepHeld_keepHeld s .arg _ _⟩,
    ⟨keepHeld_keepHeld s .t1 _ _, keepHeld_keepHeld s .h1 _ _⟩, rfl, rfl, ?_, rfl, rfl, rfl, rfl, rfl⟩
  by_cases htph : s.port.variant = .tph
  · simp only [htph, if_true, keepHeld_self]
  · exact if_neg (by simp [holdsValue, htph])

/-- INIT's commit in variant TP writes T1..P9; H1..H6 stay without a value, and so does the empty cache (R36, R156). -/
theorem commitTp_alike {s : State} (huninit : s.port.state = .uninit) (hinv : EngineInvariant s) {id : Byte}
    (hid : variantOf id ≠ .tph) (c : List Byte) (x : State) :
    Alike (complete .ok id.toNat (commitTp id c s)) (complete .ok id.toNat (commitTp id c (withNoValues x s))) := by
  have hsample := (hinv.nothing_cached (by simp [huninit])).1
  apply alike_of_eq
  simp only [withNoValues, complete, raise, setResult, commitTp, State.mk.injEq, Port.mk.injEq,
    CalibStore.mk.injEq, SampleCache.mk.injEq, true_and, and_true]
  refine ⟨⟨rfl, keepHeld_keepHeld s .cmd _ _, keepHeld_keepHeld s .arg _ _⟩, ⟨rfl, ?_⟩,
    keepHeld_keepHeld s .adcP _ _, keepHeld_keepHeld s .adcT _ _, ?_, keepHeld_keepHeld s .lastTs _ _,
    keepHeld_keepHeld s .tFine _ _, keepHeld_keepHeld s .tOut _ _, keepHeld_keepHeld s .pOut _ _,
    keepHeld_keepHeld s .hOut _ _⟩
  · exact if_neg (by simp [holdsValue, hid])
  · exact if_neg (by simp [holdsValue, hsample])

/-- INIT's commit in variant TPH writes every coefficient; the empty cache stays without a value (R156). -/
theorem commitHum_alike {s : State} (huninit : s.port.state = .uninit) (hinv : EngineInvariant s) (id : Byte)
    (c e : List Byte) (a : Byte) (x : State) : Alike (complete .ok id.toNat (commitHum a e (commitTp id c s)))
      (complete .ok id.toNat (commitHum a e (commitTp id c (withNoValues x s)))) := by
  have hsample := (hinv.nothing_cached (by simp [huninit])).1
  apply alike_of_eq
  simp only [withNoValues, complete, raise, setResult, commitTp, commitHum, State.mk.injEq, Port.mk.injEq,
    CalibStore.mk.injEq, SampleCache.mk.injEq, true_and, and_true]
  refine ⟨⟨rfl, keepHeld_keepHeld s .cmd _ _, keepHeld_keepHeld s .arg _ _⟩, ⟨rfl, keepHeld_self _ _ _⟩,
    keepHeld_keepHeld s .adcP _ _, keepHeld_keepHeld s .adcT _ _, ?_, keepHeld_keepHeld s .lastTs _ _,
    keepHeld_keepHeld s .tFine _ _, keepHeld_keepHeld s .tOut _ _, keepHeld_keepHeld s .pOut _ _,
    keepHeld_keepHeld s .hOut _ _⟩
  · exact if_neg (by simp [holdsValue, hsample])

/-! What a command reads after ensure_fresh holds a value: there are a sample and a calibration, and an output is valid
before it is answered. -/

theorem withTFine_withNoValues {s : State} (hsample : s.cache.sampleValid = true) (hcalib : s.store.calibValid = true)
    (x : State) : withTFine (withNoValues x s) = withNoValues x (withTFine s) := by
  have hadc : (withNoValues x s).cache.adcT = s.cache.adcT := keepHeld_of_held s .adcT hsample _ _
  have htp : (withNoValues x s).store.tp = s.store.tp := keepHeld_of_held s .t1 hcalib _ _
  have hload : loadTFine (withNoValues x s) = withNoValues x (loadTFine s) := by
    unfold loadTFine
    rw [hadc, htp]
    rfl
  rw [withTFine, withTFine, hload]
  exact (apply_ite (withNoValues x) (s.cache.tfineValid = true) s (loadTFine s)).symm

theorem withOutput_withNoValues {r : Reader} {s : State} (htph : r = .hum → s.port.variant = .tph)
    (hsample : s.cache.sampleValid = true) (hcalib : s.store.calibValid = true) (x : State) :
    withOutput r (withNoValues x s) = withNoValues x (withOutput r s) := by
  have hfine := withTFine_withNoValues hsample hcalib x
  have htf : (withNoValues x (withTFine s)).cache.tFine = (withTFine s).cache.tFine :=
    keepHeld_of_held (withTFine s) .tFine (withTFine_tfineValid s) _ _
  obtain ⟨-, hstore, hvalid, -, -, -, -, -⟩ := withTFine_sameSample s
  cases r with
  | refresh => rfl
  | temp =>
    rw [withOutput, withOutput, hfine, htf]
    exact (apply_ite (withNoValues x) (s.cache.tValid = true) s (loadTOut (withTFine s).cache.tFine (withTFine s))).symm
  | pres =>
    have hadc : (withNoValues x (withTFine s)).cache.adcP = (withTFine s).cache.adcP :=
      keepHeld_of_held (withTFine s) .adcP (hvalid.trans hsample) _ _
    have htp : (withNoValues x (withTFine s)).store.tp = (withTFine s).store.tp :=
      keepHeld_of_held (withTFine s) .t1 ((congrArg CalibStore.calibValid hstore).trans hcalib) _ _
    have hload : loadPOut (withTFine s).cache.tFine (withNoValues x (withTFine s)) =
        withNoValues x (loadPOut (withTFine s).cache.tFine (withTFine s)) := by
      unfold loadPOut
      rw [hadc, htp]
      rfl
    rw [withOutput, withOutput, hfine, htf, hload]
    exact (apply_ite (withNoValues x) (s.cache.pValid = true) s (loadPOut (withTFine s).cache.tFine (withTFine s))).symm
  | hum =>
    have hvariant : (withTFine s).port.variant = .tph := by rw [withTFine_port, htph rfl]
    have hadc : (withNoValues x (withTFine s)).cache.adcH = (withTFine s).cache.adcH :=
      keepHeld_of_held (withTFine s) .adcH (by simp [holdsValue, hvalid, hsample, hvariant]) _ _
    have hhum : (withNoValues x (withTFine s)).store.hum = (withTFine s).store.hum :=
      keepHeld_of_held (withTFine s) .h1 (by simp [holdsValue, hstore, hcalib, hvariant]) _ _
    have hload : loadHOut (withTFine s).cache.tFine (withNoValues x (withTFine s)) =
        withNoValues x (loadHOut (withTFine s).cache.tFine (withTFine s)) := by
      unfold loadHOut
      rw [hadc, hhum]
      rfl
    rw [withOutput, withOutput, hfine, htf, hload]
    exact (apply_ite (withNoValues x) (s.cache.hValid = true) s (loadHOut (withTFine s).cache.tFine (withTFine s))).symm

theorem answered_withNoValues {r : Reader} {s : State} (hvalid : r.outputValid s = true) (b : Bool) (x : State) :
    answered r b (withNoValues x s) = withNoValues x (answered r b s) := by
  cases r with
  | refresh => rfl
  | temp =>
    have hout : (withNoValues x s).cache.tOut = s.cache.tOut := keepHeld_of_held s .tOut hvalid _ _
    rw [answered, completeTemp, hout]
    rfl
  | pres =>
    have hout : (withNoValues x s).cache.pOut = s.cache.pOut := keepHeld_of_held s .pOut hvalid _ _
    rw [answered, answered, completePres, completePres, hout]
    exact (apply_ite (withNoValues x) (s.cache.pUndef = true) (complete .undefinedResult 0 s)
      (complete .ok s.cache.pOut.toInt s)).symm
  | hum =>
    have hout : (withNoValues x s).cache.hOut = s.cache.hOut := keepHeld_of_held s .hOut hvalid _ _
    rw [answered, completeHum, hout]
    rfl

theorem finish_ignoresNoValues {r : Reader} {s : State} (htph : r = .hum → s.port.variant = .tph)
    (hsample : s.cache.sampleValid = true) (hcalib : s.store.calibValid = true) (b : Bool) :
    IgnoresNoValuesAt (finish r b) s := by
  intro x
  rw [finish_eq, finish_eq, withOutput_withNoValues htph hsample hcalib,
    answered_withNoValues (outputValid_withOutput r s)]
  exact .next (alike_withNoValues x _)

/-! The bus operations -/

/-- What the walk through a busy step keeps: the engine invariant, and CMD and ARG with a value (R28, R130). -/
structure Latched (s : State) : Prop where
  engine : EngineInvariant s
  issued : s.port.issued = true

theorem Latched.same {s t : State} (hs : Latched s) (h : SameRegisters s t) (hp : t.port.pending = none)
    (hissued : t.port.issued = s.port.issued) : Latched t :=
  ⟨hs.engine.same h hp, hissued.trans hs.issued⟩

theorem Latched.arg_eq {s : State} (hs : Latched s) (x : State) : (withNoValues x s).port.arg = s.port.arg :=
  keepHeld_of_held s .arg hs.issued _ _

theorem Latched.calibValid {s : State} (hs : Latched s) (hready : s.port.state = .ready) :
    s.store.calibValid = true := by
  obtain ⟨⟨-, -, -, -, -, hcalib⟩, -, -⟩ := hs.engine
  exact hcalib.mpr hready

theorem raise_ignoresNoValues (c : Completion) (s : State) : IgnoresNoValuesAt (fun s => .next (raise c s)) s :=
  fun x => .next ⟨x, rfl⟩

/-- A MemRead, with what its answer leads to. -/
theorem memRead_ignoresNoValues {off : Byte} {n : Nat} {p : Pending} {k : Option (List Byte) → State → Out}
    {s : State} (hs : Latched s) (hfails : ∀ u, k none u = .next (raise .communicationError u))
    (hanswers : ∀ bs u, SameRegisters s u → Latched u → IgnoresNoValuesAt (k (some bs)) u) :
    IgnoresNoValuesAt (memRead off n p k) s := by
  intro x
  rcases hbus : s.agents.bus with - | ⟨- | - | bs, rest⟩
  case nil =>
    rw [memRead_waits hbus, memRead_waits (s := withNoValues x s) hbus]
    exact .next ⟨x, rfl⟩
  case cons.commErr =>
    rw [memRead_fails hbus, memRead_fails (s := withNoValues x s) hbus, hfails, hfails]
    exact .next ⟨x, rfl⟩
  case cons.ok =>
    have hwrong : ∀ u : State, u.agents.bus = .ok :: rest → memRead off n p k u = .refused .notAnAnswer := by
      intro u hu
      rw [memRead, hu]
    rw [hwrong s hbus, hwrong (withNoValues x s) hbus]
    exact .refused _
  case cons.bytes =>
    by_cases hn : bs.length = n
    · rw [memRead_answers hbus hn, memRead_answers (s := withNoValues x s) hbus hn]
      exact hanswers bs (record _ (takeAnswer rest s)) ⟨rfl, rfl, rfl, rfl⟩
        (hs.same ⟨rfl, rfl, rfl, rfl⟩ rfl rfl) x
    · have hwrong : ∀ u : State, u.agents.bus = .bytes bs :: rest → memRead off n p k u = .refused .notAnAnswer := by
        intro u hu
        rw [memRead, hu]
        exact if_neg hn
      rw [hwrong s hbus, hwrong (withNoValues x s) hbus]
      exact .refused _

theorem readBurst_ignoresNoValues {r : Reader} {s : State} (hr : r.Enabled s) (hs : Latched s) :
    IgnoresNoValuesAt (readBurst r (finish r)) s := by
  refine memRead_ignoresNoValues (n := burstLength s.port.variant) hs (fun _ => rfl) fun bs u hu hlatched x => ?_
  have hready : u.port.state = .ready := hu.state.trans hr.ready
  obtain ⟨y, hy⟩ := loadSample_alike u.port.arg bs u x
  rw [gotBurst, gotBurst, hlatched.arg_eq, hy]
  exact finish_ignoresNoValues (s := loadSample u.port.arg bs u) (fun h => hu.variant.trans (hr.tph h)) rfl
    (hlatched.calibValid hready) true y

theorem convert_ignoresNoValues {r : Reader} {s : State} (hr : r.Enabled s) (hs : Latched s) :
    IgnoresNoValuesAt (convert r (finish r)) s := by
  intro x
  rcases hbus : s.agents.bus with - | ⟨- | - | bs, rest⟩
  case nil =>
    rw [convert, convert, memWriteControl_waits hbus, memWriteControl_waits (s := withNoValues x s) hbus]
    exact .next ⟨x, rfl⟩
  case cons.commErr =>
    rw [convert_commErr hbus, convert_commErr (s := withNoValues x s) hbus]
    exact .next ⟨x, rfl⟩
  case cons.ok =>
    rw [convert_answers hbus, convert_answers (s := withNoValues x s) hbus]
    exact readBurst_ignoresNoValues (s := underway rest [controlEvent true, settleEvent] s) ⟨hr.ready, hr.tph⟩
      (hs.same ⟨rfl, rfl, rfl, rfl⟩ rfl rfl) x
  case cons.bytes =>
    have hwrong : ∀ u : State, u.agents.bus = .bytes bs :: rest →
        convert r (finish r) u = .refused .notAnAnswer := by
      intro u hu
      rw [convert, memWriteControl, hu]
    rw [hwrong s hbus, hwrong (withNoValues x s) hbus]
    exact .refused _

/-- LAST_TS is read only while there is a sample (R194). -/
theorem sampleFresh_withNoValues (now : BitVec 64) (x s : State) :
    SampleFresh now (withNoValues x s) ↔ SampleFresh now s := by
  refine and_congr_right fun hvalid => ?_
  have hts : (withNoValues x s).cache.lastTs = s.cache.lastTs := keepHeld_of_held s .lastTs hvalid _ _
  rw [hts]
  rfl

theorem ensureFresh_ignoresNoValues {r : Reader} {s : State} (hr : r.Enabled s) (hs : Latched s) :
    IgnoresNoValuesAt (ensureFresh r (finish r)) s := by
  intro x
  have hiff : SampleFresh (withNoValues x s).port.arg (withNoValues x s) ↔ SampleFresh s.port.arg s := by
    rw [hs.arg_eq, sampleFresh_withNoValues]
  by_cases hfresh : SampleFresh s.port.arg s
  · rw [ensureFresh_of_fresh hfresh, ensureFresh_of_fresh (hiff.mpr hfresh)]
    exact finish_ignoresNoValues hr.tph hfresh.1 (hs.calibValid hr.ready) false x
  · rw [ensureFresh_of_stale hfresh, ensureFresh_of_stale (mt hiff.mp hfresh)]
    exact convert_ignoresNoValues hr hs x

/-! INIT, from its last read back to its first -/

theorem readHumidityRest_ignoresNoValues {s : State} (huninit : s.port.state = .uninit) (hs : Latched s) (id : Byte)
    (c : List Byte) (a : Byte) : IgnoresNoValuesAt (readHumidityRest id c a) s :=
  memRead_ignoresNoValues hs (fun _ => rfl) fun e _ hu hlatched x =>
    .next (commitHum_alike (hu.state.trans huninit) hlatched.engine id c e a x)

theorem readHumidityFirst_ignoresNoValues {s : State} (huninit : s.port.state = .uninit) (hs : Latched s) (id : Byte)
    (c : List Byte) : IgnoresNoValuesAt (readHumidityFirst id c) s :=
  memRead_ignoresNoValues hs (fun _ => rfl) fun a _ hu hlatched =>
    readHumidityRest_ignoresNoValues (hu.state.trans huninit) hlatched id c (byteAt a 0)

theorem readCalibration_ignoresNoValues {s : State} (huninit : s.port.state = .uninit) (hs : Latched s) (id : Byte) :
    IgnoresNoValuesAt (readCalibration id) s := by
  refine memRead_ignoresNoValues hs (fun _ => rfl) fun c u hu hlatched x => ?_
  have huninit' : u.port.state = .uninit := hu.state.trans huninit
  by_cases hid : variantOf id = .tph
  · simp only [gotCalibration, hid, if_true]
    exact readHumidityFirst_ignoresNoValues huninit' hlatched id c x
  · simp only [gotCalibration, hid, if_false]
    exact .next (commitTp_alike huninit' hlatched.engine hid c x)

theorem readIdentity_ignoresNoValues {s : State} (huninit : s.port.state = .uninit) (hs : Latched s) :
    IgnoresNoValuesAt readIdentity s := by
  refine memRead_ignoresNoValues hs (fun _ => rfl) fun bs u hu hlatched x => ?_
  by_cases hid : variantOf (byteAt bs 0) = .none
  · simp only [gotIdentity, hid, if_true]
    exact .next ⟨x, rfl⟩
  · simp only [gotIdentity, hid, if_false]
    exact readCalibration_ignoresNoValues (hu.state.trans huninit) hlatched _ x

/-! The commands -/

theorem exec_ignoresNoValues (i : Instr) {s : State} (hs : Latched s) : IgnoresNoValuesAt (exec i) s := by
  have hreader : ∀ {r : Reader}, i.reader? = some r → IgnoresNoValuesAt (exec i) s := by
    intro r hi x
    apply exec_reader_rule (Q := fun o => AlikeOut o (exec i (withNoValues x s))) hi
    case notReady =>
      intro hstate
      rw [exec_reader_of_not_ready (s := withNoValues x s) hi hstate]
      exact raise_ignoresNoValues _ s x
    case unsupported =>
      rintro rfl hready htph
      have hraise : exec i (withNoValues x s) = .next (raise .unsupportedOperation (withNoValues x s)) := by
        cases i <;> cases hi
        exact exec_readHum_of_not_tph hready htph
      rw [hraise]
      exact raise_ignoresNoValues _ s x
    case enabled =>
      intro hr
      rw [exec_reader_of_ready (s := withNoValues x s) hi hr.ready hr.tph]
      exact ensureFresh_ignoresNoValues hr hs x
  cases i with
  | nop => exact raise_ignoresNoValues _ s
  | init =>
    intro x
    cases hstate : s.port.state with
    | uninit =>
      rw [exec_init_of_uninit hstate, exec_init_of_uninit (s := withNoValues x s) hstate]
      exact readIdentity_ignoresNoValues hstate hs x
    | ready =>
      rw [exec_init_of_ready hstate, exec_init_of_ready (s := withNoValues x s) hstate]
      exact raise_ignoresNoValues _ s x
    | failed =>
      rw [exec_init_of_failed hstate, exec_init_of_failed (s := withNoValues x s) hstate]
      exact raise_ignoresNoValues _ s x
  | setInterval =>
    intro x
    rw [exec, execSetInterval, exec, execSetInterval, hs.arg_eq]
    exact .next ⟨x, rfl⟩
  | refresh => exact hreader rfl
  | readTemp => exact hreader rfl
  | readPres => exact hreader rfl
  | readHum => exact hreader rfl

theorem resume_ignoresNoValues {p : Pending} {s : State} (hp : p.lawful s = true) (hs : Latched s) :
    IgnoresNoValuesAt (resume p) s := by
  cases p with
  | control r => exact convert_ignoresNoValues (lawful_control_iff.mp hp) hs
  | burst r => exact readBurst_ignoresNoValues (lawful_burst_iff.mp hp) hs
  | identity => exact readIdentity_ignoresNoValues (eq_of_beq hp) hs
  | calibration id => exact readCalibration_ignoresNoValues (eq_of_beq (Bool.and_eq_true_iff.mp hp).1) hs id
  | humidityFirst id c => exact readHumidityFirst_ignoresNoValues (eq_of_beq (Bool.and_eq_true_iff.mp hp).1) hs id c
  | humidityRest id c a => exact readHumidityRest_ignoresNoValues (eq_of_beq (Bool.and_eq_true_iff.mp hp).1) hs id c a

/-! The host's moves, one by one (R300, R320) -/

theorem step_of_idle {s : State} (hb : s.port.busy = false) : step s = idle s := by
  rw [step, hb]

theorem idle_of_nothing {s : State} (h : s.agents.host = []) : idle s = .next s := by
  rw [idle, h]

theorem idle_of_action {s : State} {a : HostAction} {rest : List HostAction} (h : s.agents.host = a :: rest) :
    idle s = hostMove a (takeAction rest s) := by
  rw [idle, h]

theorem hostMove_issue (arg : BitVec 64) (cmd : CmdWord) {s : State} (hb : s.port.busy = false) :
    hostMove (.issue arg cmd) s = .next (latched arg cmd s) :=
  if_neg (by simp [hb])

theorem hostMove_reset {s : State} (hb : s.port.busy = false) : hostMove .reset s = .next (resetRegisters s) :=
  if_neg (by simp [hb])

/-- A host read stops or not without a look at what the register contains (R300). -/
theorem hostMove_read (r : Reg) (s : State) : hostMove (.read r) s =
    if s.port.busy then .refused (.readWhileBusy r)
    else if absentRegister r s then .fault (.readOfAbsentRegister r)
    else if uncomputedValue r s then .fault (.readOfUncomputedValue r)
    else .next s := by
  rw [hostMove, hostRead]
  cases s.port.busy with
  | true => rfl
  | false =>
    cases absentRegister r s with
    | true => rfl
    | false => cases uncomputedValue r s <;> rfl

theorem uncomputedValue_withNoValues (r : Reg) (x s : State) :
    uncomputedValue r (withNoValues x s) = uncomputedValue r s := by
  rw [uncomputedValue, holdsValue_withNoValues]
  rfl

theorem hostMove_ignoresNoValues (a : HostAction) {s : State} (hb : s.port.busy = false) :
    IgnoresNoValuesAt (hostMove a) s := by
  intro x
  cases a with
  | issue arg cmd =>
    rw [hostMove_issue arg cmd hb, hostMove_issue (s := withNoValues x s) arg cmd hb]
    exact .next ⟨x, rfl⟩
  | reset =>
    rw [hostMove_reset hb, hostMove_reset (s := withNoValues x s) hb]
    exact .next (alike_refl (resetRegisters s))
  | read r =>
    have habsent : absentRegister r (withNoValues x s) = absentRegister r s := rfl
    have hbusy : (withNoValues x s).port.busy = s.port.busy := rfl
    rw [hostMove_read, hostMove_read, uncomputedValue_withNoValues, habsent, hbusy]
    split
    · exact .refused _
    · split
      · exact .fault _
      · split
        · exact .fault _
        · exact .next (alike_withNoValues x s)

theorem idle_ignoresNoValues {s : State} (hb : s.port.busy = false) : IgnoresNoValuesAt idle s := by
  intro x
  cases hhost : s.agents.host with
  | nil =>
    rw [idle_of_nothing hhost, idle_of_nothing (s := withNoValues x s) hhost]
    exact .next (alike_withNoValues x s)
  | cons a rest =>
    rw [idle_of_action hhost, idle_of_action (s := withNoValues x s) hhost]
    exact hostMove_ignoresNoValues a (s := takeAction rest s) hb x

/-- A step of the machine, from a state that keeps the invariants (R21). -/
theorem step_ignoresNoValues {s : State} (hinv : EngineInvariant s) (hissued : LatchedIsIssued s) :
    IgnoresNoValuesAt step s := by
  intro x
  apply step_rule (Q := fun o => AlikeOut o (step (withNoValues x s)))
  case idles =>
    intro hb
    rw [step_of_idle (s := withNoValues x s) hb]
    exact idle_ignoresNoValues hb x
  case resumes =>
    intro p hb hp
    rw [step_of_pending (s := withNoValues x s) hb hp]
    exact resume_ignoresNoValues (hinv.pending_lawful hp) ⟨hinv, hissued hb⟩ x
  case executes =>
    intro i hb hp hi
    have hcmd : (withNoValues x s).port.cmd = s.port.cmd := keepHeld_of_held s .cmd (hissued hb) _ _
    rw [step_of_instr (s := withNoValues x s) hb hp (by rw [hcmd, hi])]
    exact exec_ignoresNoValues i ⟨hinv, hissued hb⟩ x
  case illegal =>
    intro hb hp hnone
    have hcmd : (withNoValues x s).port.cmd = s.port.cmd := keepHeld_of_held s .cmd (hissued hb) _ _
    have hillegal : ∀ i, decode (withNoValues x s).port.cmd ≠ .instr i := by
      intro i hi
      rw [← hcmd, hi] at hnone
      cases hnone
    rw [step_of_illegal_word (s := withNoValues x s) hb hp hillegal]
    exact raise_ignoresNoValues _ s x

/-- A step keeps the bit that says that CMD and ARG have been written: a command that waits leaves it, HOST's issue sets
it. -/
theorem step_latchedIsIssued {s : State} (hs : LatchedIsIssued s) : Ensures LatchedIsIssued (step s) := by
  cases hb : s.port.busy with
  | false =>
    rw [step_of_idle hb]
    apply idle_rule hb
    case rests => exact fun _ => ensures_next hs
    case issued => exact fun _ _ _ _ => ensures_next fun _ => rfl
    case reset => exact fun _ _ => ensures_next nofun
    case seen => exact fun _ _ _ => ensures_next hs
    case fault => exact ensures_fault _
    case refused => exact ensures_refused _
  | true =>
    have houtcome := step_commandOutcome hb
    generalize step s = o at houtcome
    cases houtcome with
    | waits p es _ => exact ensures_next fun _ => hs hb
    | returns t es _ hidle _ _ => exact ensures_next fun h => absurd h (by simp [hidle])
    | rejects c rest es _ _ => exact ensures_next nofun
    | commErr rest es e _ _ => exact ensures_next nofun
    | unrecognized id rest es _ => exact ensures_next nofun
    | refuses q => exact ensures_refused _ q

/-- Settles O51: alike states step to alike states, and alike states have the same contents once the registers without
a value are filled from one and the same state. -/
theorem stepIgnoresRegistersWithNoValue : Obligations.StepIgnoresRegistersWithNoValue :=
  ⟨fun _ t hs hstep => step_latchedIsIssued hs t hstep,
    fun x _ hinv hissued => (step_ignoresNoValues hinv hissued x).onNext_eq x⟩

end Sys2Proof.Machine

namespace Sys2Proof.Machine

/-! SUPPORT. HOST's moves and the steps after them (R24, R130, R300, R301, R320). -/

/-- Settles O4: a busy engine without an open request executes its command. -/
theorem stepRunsTheLatchedCommand : Obligations.StepRunsTheLatchedCommand :=
  fun _ _ hb hp hi => step_of_instr hb hp hi

/-- Settles O5: the issue latches its operands, and the next step finds them there. -/
theorem issuedCommandIsExecutedWithItsArg : Obligations.IssuedCommandIsExecutedWithItsArg := by
  intro s arg cmd rest hb hhost
  refine ⟨latched arg cmd (takeAction rest s), ?_, rfl, rfl, rfl, rfl, fun i hi => step_of_instr rfl rfl hi,
    fun hillegal => step_of_illegal_word rfl rfl hillegal⟩
  rw [step_of_idle hb, idle_of_action hhost, hostMove_issue (s := takeAction rest s) arg cmd hb]

/-- Settles O56: the registers after the reset do not depend on those before. -/
theorem hostResetRestoresEveryRegister : Obligations.HostResetRestoresEveryRegister := by
  intro s rest hb hhost
  refine ⟨resetRegisters (takeAction rest s), ?_, rfl, rfl, rfl, rfl, rfl⟩
  rw [step_of_idle hb, idle_of_action hhost, hostMove_reset (s := takeAction rest s) hb]

/-- Settles O58: each of the host's moves checks BUSY first. -/
theorem busyEngineRefusesTheHost : Obligations.BusyEngineRefusesTheHost := by
  intro s arg cmd r hb
  exact ⟨if_pos hb, if_pos hb, (hostMove_read r s).trans (if_pos hb)⟩

/-- Whatever the open request, without an answer the command waits for it again (R301). -/
theorem resume_waits {s : State} (p : Pending) (hbus : s.agents.bus = []) : resume p s = .next (stall p s) := by
  cases p with
  | identity => exact memRead_waits hbus
  | calibration id => exact memRead_waits hbus
  | humidityFirst id c => exact memRead_waits hbus
  | humidityRest id c a => exact memRead_waits hbus
  | control r => exact memWriteControl_waits hbus
  | burst r => exact memRead_waits hbus

theorem stall_of_stalled {s : State} {p : Pending} (hb : s.port.busy = true) (hp : s.port.pending = some p) :
    stall p s = s := by
  rw [stall, ← hb, ← hp]

/-- Settles O53: waiting again changes nothing. -/
theorem unansweredRequestLeavesEngineStuck : Obligations.UnansweredRequestLeavesEngineStuck := by
  intro s p hb hp hbus
  rw [step_of_pending hb hp, resume_waits p hbus, stall_of_stalled hb hp]

/-- Settles O55: the reset state, register by register. -/
theorem resetRegisterValues : Obligations.ResetRegisterValues :=
  ⟨rfl, rfl, rfl, rfl, rfl, rfl, rfl, rfl, rfl, rfl, rfl, rfl, rfl, by decide, rfl, by decide⟩

/-! SUPPORT. Which host reads stop (R300). -/

theorem absentRegister_iff (r : Reg) (s : State) : absentRegister r s = true ↔
    s.port.variant = .tp ∧ r ∈ [Reg.h1, .h2, .h3, .h4, .h5, .h6, .adcH] := by
  simp only [absentRegister, Bool.and_eq_true, beq_iff_eq, List.contains_iff_mem]

theorem uncomputedValue_iff (r : Reg) (s : State) : uncomputedValue r s = true ↔
    s.cache.sampleValid = true ∧
      ((r = .tFine ∧ s.cache.tfineValid = false) ∨ (r = .tOut ∧ s.cache.tValid = false) ∨
        (r = .pOut ∧ s.cache.pValid = false) ∨ (r = .hOut ∧ s.cache.hValid = false)) := by
  rw [uncomputedValue, Bool.and_assoc, Bool.and_eq_true]
  refine and_congr_right fun _ => ?_
  cases r <;> simp [holdsValue]

/-- A register that holds a value exists in the variant at hand. -/
theorem absentRegister_of_holdsValue {r : Reg} {s : State} (h : holdsValue r s = true) :
    absentRegister r s = false := by
  rw [Bool.eq_false_iff, ne_eq, absentRegister_iff]
  rintro ⟨htp, hmem⟩
  cases r <;> simp [holdsValue, htp] at h hmem

theorem uncomputedValue_of_holdsValue {r : Reg} {s : State} (h : holdsValue r s = true) :
    uncomputedValue r s = false := by
  rw [uncomputedValue, h, Bool.not_true, Bool.and_false]

theorem hostRead_answers {r : Reg} {s : State} (hb : s.port.busy = false) (habsent : absentRegister r s = false)
    (hvalue : uncomputedValue r s = false) : hostRead r s = .next (regValue r s) := by
  simp only [hostRead, hb, habsent, hvalue, Bool.false_eq_true, if_false]

theorem hostRead_of_absent {r : Reg} {s : State} (hb : s.port.busy = false) (h : absentRegister r s = true) :
    hostRead r s = .fault (.readOfAbsentRegister r) := by
  simp only [hostRead, hb, h, Bool.false_eq_true, if_false, if_true]

theorem hostRead_of_uncomputed {r : Reg} {s : State} (hb : s.port.busy = false) (h : uncomputedValue r s = true) :
    hostRead r s = .fault (.readOfUncomputedValue r) := by
  have habsent : absentRegister r s = false := by
    rw [Bool.eq_false_iff, ne_eq, absentRegister_iff]
    rintro ⟨-, hmem⟩
    obtain ⟨-, hvalue⟩ := (uncomputedValue_iff r s).mp h
    rcases hvalue with ⟨rfl, -⟩ | ⟨rfl, -⟩ | ⟨rfl, -⟩ | ⟨rfl, -⟩ <;> simp at hmem
  simp only [hostRead, hb, habsent, h, Bool.false_eq_true, if_false, if_true]

/-- Settles O57: after reset no variant lacks a register and there is no sample; else the two reads that stop are told
apart by their registers, and a register with a value is of neither kind. -/
theorem hostReadStopsOnlyWhereForbidden : Obligations.HostReadStopsOnlyWhereForbidden := by
  constructor
  · exact fun r => hostRead_answers rfl rfl rfl
  · intro s r hb absent uncomputed
    refine ⟨fun h => hostRead_of_absent hb ((absentRegister_iff r s).mpr h),
      fun h => hostRead_of_uncomputed hb ((uncomputedValue_iff r s).mpr h), fun habsent hvalue => ?_, fun h => ?_⟩
    · exact hostRead_answers hb (Bool.eq_false_iff.mpr (mt (absentRegister_iff r s).mp habsent))
        (Bool.eq_false_iff.mpr (mt (uncomputedValue_iff r s).mp hvalue))
    · exact hostRead_answers hb (absentRegister_of_holdsValue h) (uncomputedValue_of_holdsValue h)

/-! SUPPORT. INIT to its end (R151, R156). -/

theorem readCalibration_of_not_tph {s : State} {id : Byte} {c : List Byte} {rest : List BusAnswer}
    (hv : variantOf id ≠ .tph) (hc : c.length = 24) (hbus : s.agents.bus = .bytes c :: rest) :
    readCalibration id s =
      .next (complete .ok id.toNat (commitTp id c (underway rest [readEvent 0x88 24 (some c)] s))) := by
  rw [readCalibration, memRead_answers hbus hc]
  exact if_neg hv

theorem readHumidityRest_answers {s : State} {e : List Byte} {rest : List BusAnswer} (id : Byte) (c : List Byte)
    (a : Byte) (he : e.length = 7) (hbus : s.agents.bus = .bytes e :: rest) :
    readHumidityRest id c a s =
      .next (complete .ok id.toNat
        (commitHum a e (commitTp id c (underway rest [readEvent 0xE1 7 (some e)] s)))) := by
  rw [readHumidityRest, memRead_answers hbus he]
  rfl

/-- Settles O23: two reads, then the commit of variant TP. -/
theorem initLoadsTpDevice : Obligations.InitLoadsTpDevice := by
  intro s c rest huninit hc hbus
  rw [exec_init_of_uninit huninit, readIdentity_of_known (by decide) hbus,
    readCalibration_of_not_tph (by decide) hc rfl, underway_underway]
  rfl

/-- Settles O24: four reads, then the commit of variant TPH. -/
theorem initLoadsTphDevice : Obligations.InitLoadsTphDevice := by
  intro s c e a rest huninit hc he hbus
  rw [exec_init_of_uninit huninit, readIdentity_of_known (by decide) hbus, readCalibration_of_tph (by decide) hc rfl,
    readHumidityFirst_answers 0x60 c rfl, readHumidityRest_answers 0x60 c a he rfl, underway_underway,
    underway_underway, underway_underway]
  rfl

end Sys2Proof.Machine
